-- ==== Sys2Proof/Word.lean ====
section
/-! DEFINITION. The two widths of the core: a bus datum and a register are a byte, an address and PC a word (R4, R50). -/

namespace Sys2Proof

/-- A bus datum, a register A, X, Y or SP, an operand byte (R21 to R27, R51). -/
abbrev Byte := BitVec 8

/-- A bus address, PC, the pair AX (R26, R30, R50). -/
abbrev Word := BitVec 16

end Sys2Proof
end

