-- ==== Sys2Proof/Config.lean ====
section
/-! DEFINITION. What the spec leaves as a parameter (R4 and the table "Parameters left OPEN" of 92_eei_decisions.md):
`BUS`, `CYCLE_WIDTH` and `BLKMOV_SLOTS`. `Parameters` holds the last two, as arguments that the operations of the core
take; `BUS` is an argument in the state, its `mem` and `oracle` (log entries 1 and 2). -/

namespace Sys2Proof

/-- The register numbering of R24, used by the block move only. R24 numbers SP too; that a block move may name it is the
model's choice (log entry 17). -/
inductive RegIndex where
  | a | x | y | sp
  deriving DecidableEq, Repr

/-- The two directions of a block move (R186). -/
inductive BlockDirection where
  | increment | decrement
  deriving DecidableEq, Repr

/-- A block-move variant (R186): source and destination index registers, count register, direction, cycles of one
iteration and cycles before the first one. -/
structure BlockMove where
  src : RegIndex
  dst : RegIndex
  cnt : RegIndex
  dir : BlockDirection
  iter : Nat
  base : Nat
  deriving DecidableEq, Repr

/-- What R186 asks of a variant: three distinct registers, at least two cycles an iteration (a read and a write),
at least one before the first (the opcode fetch). DESIGN CHOICE (log entry 17): SP may be one of the three. R186 says that
only A, X and Y are available, R24 numbers SP for this rule. -/
abbrev BlockMove.wf (b : BlockMove) : Prop :=
  b.src ≠ b.dst ∧ b.src ≠ b.cnt ∧ b.dst ≠ b.cnt ∧ 2 ≤ b.iter ∧ 1 ≤ b.base

/-- The parameters left OPEN that the core's own operations take (R4). -/
structure Parameters where
  /-- `CYCLE_WIDTH` (R42): how many bits the cycle counter has for its reader; `none` is unbounded. -/
  cycleWidth : Option Nat
  /-- `BLKMOV_SLOTS` (R86): the opcode bytes given to block moves. -/
  blkmovSlots : List (Byte × BlockMove)
  deriving DecidableEq, Repr

namespace Config

/-- What an address reads as that memory does not list. DESIGN CHOICE (log entry 1): 0x00, the spec's default for
`BUS` ("flat read-write memory of 65,536 bytes, all 0x00"). Unsafe: a real bus may answer otherwise. -/
def unlistedByte : Byte := 0x00

/-- `CYCLE_WIDTH` (R42). DESIGN CHOICE (log entry 7): unbounded, the spec's default. Unsafe: a counter of a fixed width
wraps for its reader. -/
def cycleWidth : Option Nat := none

/-- `BLKMOV_SLOTS` (R86): the opcode bytes given to block moves. DESIGN CHOICE (log entry 6): empty, the spec's
default. Unsafe: a core with a block move in a slot would run it there. -/
def blkmovSlots : List (Byte × BlockMove) := []

/-- The parameters of the modelled core: the spec's defaults. -/
def parameters : Parameters := { cycleWidth := cycleWidth, blkmovSlots := blkmovSlots }

end Config

end Sys2Proof
end

