-- ==== Sys2Proof/Machine/State.lean ====
section
/-! DEFINITION. The CPU State of R20, the bytes behind the bus, and the model's own two fields (log entries 2 and 3). -/

namespace Sys2Proof.Machine

/-- The status word PSW: eight one-bit flags (R20, R32). Bit 0 of the byte is `c`, bit 7 is `n`. -/
structure Psw where
  /-- Carry (R34). -/
  c : Bool
  /-- Zero (R35). -/
  z : Bool
  /-- Interrupt enable, stored and inert (R36). -/
  i : Bool
  /-- Half carry (R37). -/
  h : Bool
  /-- Break (R38). -/
  b : Bool
  /-- Direct-page selector (R33). -/
  p : Bool
  /-- Overflow (R39). -/
  v : Bool
  /-- Negative (R40). -/
  n : Bool
  deriving DecidableEq, Repr

/-- What one cycle did (R7): the four cycle primitives, with a discarded read told apart from a read (R57). -/
inductive BusEvent where
  /-- `F`: a byte of the instruction stream was read at the address. -/
  | fetch (addr : Word) (value : Byte)
  /-- `R`: a data byte was read. -/
  | read (addr : Word) (value : Byte)
  /-- `D`: a byte was read and thrown away; the bus saw a read like any other. -/
  | discard (addr : Word) (value : Byte)
  /-- `W`: a byte was written. -/
  | write (addr : Word) (value : Byte)
  /-- `I`: no bus call. -/
  | idle
  deriving DecidableEq, Repr

/-- Memory: (address, byte) pairs, addresses strictly rising, none equal to what an unlisted address reads as. -/
abbrev Memory := List Host.Cell

/-- The machine. R20 lists the core's own fields; `mem`, `trace` and `oracle` stand for the bus behind it (R64). -/
structure State where
  /-- Accumulator (R21). -/
  a : Byte
  /-- Index register X (R22). -/
  x : Byte
  /-- Index register Y (R23). -/
  y : Byte
  /-- Stack pointer (R27, R28). -/
  sp : Byte
  /-- Program counter (R30, R31). -/
  pc : Word
  /-- Status word (R32). -/
  psw : Psw
  /-- The wait/halt latch (R41): true is HALTED. -/
  halt : Bool
  /-- The cycles consumed since power-on (R42). A reader of a counter of `CYCLE_WIDTH` bits sees `cycleCounter` of it
  (log entry 7). -/
  cycles : Nat
  /-- Operand latch 0 (R43): operand byte 1 of the last instruction that had one (DESIGN CHOICE, log entry 4). -/
  latch0 : Byte
  /-- Operand latch 1 (R43): operand byte 2 (DESIGN CHOICE, log entry 4). -/
  latch1 : Byte
  /-- Operand latch 2 (R43): the last data byte read (DESIGN CHOICE, log entry 4). -/
  latch2 : Byte
  /-- The bytes behind the bus (R50, R64). -/
  mem : Memory
  /-- The MODEL's field: what each cycle did, newest first (R57 to R59, log entry 3). -/
  trace : List BusEvent
  /-- The MODEL's field: the byte the bus answers at a cycle in place of the memory byte, keyed by the value of the
  cycle counter when the read is made (R64, log entry 2). -/
  oracle : List (Nat × Byte)
  deriving DecidableEq, Repr

/-- Why a step stops with a fault. The core has none (R400, R401, R402), so there is no constructor and nothing can
raise one: safe. -/
inductive Fault
  deriving DecidableEq, Repr

/-- Why a step is refused. -/
inductive Refusal where
  /-- Raised by an arm of `exec` whose instruction has no meaning yet. Safe: nothing can be proved of such an
  instruction. No arm raises it: all 256 opcode slots are modelled. -/
  | notModelled (mnemonic : String)
  deriving DecidableEq, Repr

/-- The machine right after power-on and the reset sequence of R431, over memory that lists nothing: the register
values of R45 and R432, PC the word at 0xFFFE (which reads 0x0000, log entries 1 and 8), two cycles spent. -/
def State.reset : State where
  a := 0x00
  x := 0x00
  y := 0x00
  sp := 0xEF
  pc := 0x0000
  psw :=
    { c := false, z := true, i := false, h := false, b := false, p := false, v := false, n := false }
  halt := false
  cycles := 2
  latch0 := 0x00
  latch1 := 0x00
  latch2 := 0x00
  mem := []
  trace := [.read 0xFFFF 0x00, .read 0xFFFE 0x00]
  oracle := []

end Sys2Proof.Machine
end

