-- ==== Sys2Proof/Syntax.lean ====
section
/-! DEFINITION. The instructions: one constructor for each of the 256 opcode bytes of the matrix of R81, with its
operands; those with operand bytes first, then those of format IMP, each in the order of the opcode byte (Lean's
compiler takes no operands on a constructor past the 244th). Operands stand in the order of the assembler form (R83), the destination
first; the bit operand of `m.b` is its address and its bit number (R78). -/

namespace Sys2Proof

/-- An instruction. Each constructor cites the rule that gives its meaning. -/
inductive Instr where
  /-- `SET1 dp.0`, opcode 0x02 (R323). -/
  | set1b0 (o : Byte)
  /-- `BBS dp.0, rel`, opcode 0x03 (R200). -/
  | bbs0 (o : Byte) (r : Byte)
  /-- `OR A, dp`, opcode 0x04 (R223). -/
  | orADp (o : Byte)
  /-- `OR A, !abs`, opcode 0x05 (R225). -/
  | orAAbs (addr : Word)
  /-- `OR A, [dp+X]`, opcode 0x07 (R228). -/
  | orAIdxInd (o : Byte)
  /-- `OR A, #imm`, opcode 0x08 (R221). -/
  | orAImm (imm : Byte)
  /-- `OR dd, ds`, opcode 0x09 (R326). -/
  | orDpDp (dst : Byte) (src : Byte)
  /-- `OR1 C, m.b`, opcode 0x0A (R286). -/
  | or1CBit (m : Word) (b : BitVec 3)
  /-- `ASL dp`, opcode 0x0B (R292). -/
  | aslDp (o : Byte)
  /-- `ASL !abs`, opcode 0x0C (R294). -/
  | aslAbs (addr : Word)
  /-- `TSET1 !abs`, opcode 0x0E (R321). -/
  | tset1Abs (addr : Word)
  /-- `BPL rel`, opcode 0x10 (R199). -/
  | bpl (r : Byte)
  /-- `CLR1 dp.0`, opcode 0x12 (R324). -/
  | clr1b0 (o : Byte)
  /-- `BBC dp.0, rel`, opcode 0x13 (R201). -/
  | bbc0 (o : Byte) (r : Byte)
  /-- `OR A, dp+X`, opcode 0x14 (R224). -/
  | orADpX (o : Byte)
  /-- `OR A, !abs+X`, opcode 0x15 (R226). -/
  | orAAbsX (addr : Word)
  /-- `OR A, !abs+Y`, opcode 0x16 (R227). -/
  | orAAbsY (addr : Word)
  /-- `OR A, [dp]+Y`, opcode 0x17 (R229). -/
  | orAIndIdx (o : Byte)
  /-- `OR dp, #imm`, opcode 0x18 (R327). -/
  | orDpImm (dst : Byte) (imm : Byte)
  /-- `DECW dp`, opcode 0x1A (R320). -/
  | decwDp (o : Byte)
  /-- `ASL dp+X`, opcode 0x1B (R293). -/
  | aslDpX (o : Byte)
  /-- `CMP X, !abs`, opcode 0x1E (R277). -/
  | cmpXAbs (addr : Word)
  /-- `JMP [!abs+X]`, opcode 0x1F (R207). -/
  | jmpAbsXInd (addr : Word)
  /-- `SET1 dp.1`, opcode 0x22 (R323). -/
  | set1b1 (o : Byte)
  /-- `BBS dp.1, rel`, opcode 0x23 (R200). -/
  | bbs1 (o : Byte) (r : Byte)
  /-- `AND A, dp`, opcode 0x24 (R232). -/
  | andADp (o : Byte)
  /-- `AND A, !abs`, opcode 0x25 (R234). -/
  | andAAbs (addr : Word)
  /-- `AND A, [dp+X]`, opcode 0x27 (R237). -/
  | andAIdxInd (o : Byte)
  /-- `AND A, #imm`, opcode 0x28 (R230). -/
  | andAImm (imm : Byte)
  /-- `AND dd, ds`, opcode 0x29 (R329). -/
  | andDpDp (dst : Byte) (src : Byte)
  /-- `OR1 C, /m.b`, opcode 0x2A (R287). -/
  | or1CNotBit (m : Word) (b : BitVec 3)
  /-- `ROL dp`, opcode 0x2B (R296). -/
  | rolDp (o : Byte)
  /-- `ROL !abs`, opcode 0x2C (R298). -/
  | rolAbs (addr : Word)
  /-- `CBNE dp, rel`, opcode 0x2E (R202). -/
  | cbneDp (o : Byte) (r : Byte)
  /-- `BRA rel`, opcode 0x2F (R191). -/
  | bra (r : Byte)
  /-- `BMI rel`, opcode 0x30 (R198). -/
  | bmi (r : Byte)
  /-- `CLR1 dp.1`, opcode 0x32 (R324). -/
  | clr1b1 (o : Byte)
  /-- `BBC dp.1, rel`, opcode 0x33 (R201). -/
  | bbc1 (o : Byte) (r : Byte)
  /-- `AND A, dp+X`, opcode 0x34 (R233). -/
  | andADpX (o : Byte)
  /-- `AND A, !abs+X`, opcode 0x35 (R235). -/
  | andAAbsX (addr : Word)
  /-- `AND A, !abs+Y`, opcode 0x36 (R236). -/
  | andAAbsY (addr : Word)
  /-- `AND A, [dp]+Y`, opcode 0x37 (R238). -/
  | andAIndIdx (o : Byte)
  /-- `AND dp, #imm`, opcode 0x38 (R330). -/
  | andDpImm (dst : Byte) (imm : Byte)
  /-- `INCW dp`, opcode 0x3A (R319). -/
  | incwDp (o : Byte)
  /-- `ROL dp+X`, opcode 0x3B (R297). -/
  | rolDpX (o : Byte)
  /-- `CMP X, dp`, opcode 0x3E (R276). -/
  | cmpXDp (o : Byte)
  /-- `CALL !abs`, opcode 0x3F (R208). -/
  | call (addr : Word)
  /-- `SET1 dp.2`, opcode 0x42 (R323). -/
  | set1b2 (o : Byte)
  /-- `BBS dp.2, rel`, opcode 0x43 (R200). -/
  | bbs2 (o : Byte) (r : Byte)
  /-- `EOR A, dp`, opcode 0x44 (R241). -/
  | eorADp (o : Byte)
  /-- `EOR A, !abs`, opcode 0x45 (R243). -/
  | eorAAbs (addr : Word)
  /-- `EOR A, [dp+X]`, opcode 0x47 (R246). -/
  | eorAIdxInd (o : Byte)
  /-- `EOR A, #imm`, opcode 0x48 (R239). -/
  | eorAImm (imm : Byte)
  /-- `EOR dd, ds`, opcode 0x49 (R332). -/
  | eorDpDp (dst : Byte) (src : Byte)
  /-- `AND1 C, m.b`, opcode 0x4A (R284). -/
  | and1CBit (m : Word) (b : BitVec 3)
  /-- `LSR dp`, opcode 0x4B (R300). -/
  | lsrDp (o : Byte)
  /-- `LSR !abs`, opcode 0x4C (R302). -/
  | lsrAbs (addr : Word)
  /-- `TCLR1 !abs`, opcode 0x4E (R322). -/
  | tclr1Abs (addr : Word)
  /-- `PCALL up`, opcode 0x4F (R209). -/
  | pcall (u : Byte)
  /-- `BVC rel`, opcode 0x50 (R197). -/
  | bvc (r : Byte)
  /-- `CLR1 dp.2`, opcode 0x52 (R324). -/
  | clr1b2 (o : Byte)
  /-- `BBC dp.2, rel`, opcode 0x53 (R201). -/
  | bbc2 (o : Byte) (r : Byte)
  /-- `EOR A, dp+X`, opcode 0x54 (R242). -/
  | eorADpX (o : Byte)
  /-- `EOR A, !abs+X`, opcode 0x55 (R244). -/
  | eorAAbsX (addr : Word)
  /-- `EOR A, !abs+Y`, opcode 0x56 (R245). -/
  | eorAAbsY (addr : Word)
  /-- `EOR A, [dp]+Y`, opcode 0x57 (R247). -/
  | eorAIndIdx (o : Byte)
  /-- `EOR dp, #imm`, opcode 0x58 (R333). -/
  | eorDpImm (dst : Byte) (imm : Byte)
  /-- `CMPW AX, dp`, opcode 0x5A (R283). -/
  | cmpwAXDp (o : Byte)
  /-- `LSR dp+X`, opcode 0x5B (R301). -/
  | lsrDpX (o : Byte)
  /-- `CMP Y, !abs`, opcode 0x5E (R280). -/
  | cmpYAbs (addr : Word)
  /-- `JMP !abs`, opcode 0x5F (R206). -/
  | jmpAbs (addr : Word)
  /-- `SET1 dp.3`, opcode 0x62 (R323). -/
  | set1b3 (o : Byte)
  /-- `BBS dp.3, rel`, opcode 0x63 (R200). -/
  | bbs3 (o : Byte) (r : Byte)
  /-- `CMP A, dp`, opcode 0x64 (R250). -/
  | cmpADp (o : Byte)
  /-- `CMP A, !abs`, opcode 0x65 (R252). -/
  | cmpAAbs (addr : Word)
  /-- `CMP A, [dp+X]`, opcode 0x67 (R255). -/
  | cmpAIdxInd (o : Byte)
  /-- `CMP A, #imm`, opcode 0x68 (R248). -/
  | cmpAImm (imm : Byte)
  /-- `CMP dd, ds`, opcode 0x69 (R335). -/
  | cmpDpDp (dst : Byte) (src : Byte)
  /-- `AND1 C, /m.b`, opcode 0x6A (R285). -/
  | and1CNotBit (m : Word) (b : BitVec 3)
  /-- `ROR dp`, opcode 0x6B (R304). -/
  | rorDp (o : Byte)
  /-- `ROR !abs`, opcode 0x6C (R306). -/
  | rorAbs (addr : Word)
  /-- `DBNZ dp, rel`, opcode 0x6E (R204). -/
  | dbnzDp (o : Byte) (r : Byte)
  /-- `BVS rel`, opcode 0x70 (R196). -/
  | bvs (r : Byte)
  /-- `CLR1 dp.3`, opcode 0x72 (R324). -/
  | clr1b3 (o : Byte)
  /-- `BBC dp.3, rel`, opcode 0x73 (R201). -/
  | bbc3 (o : Byte) (r : Byte)
  /-- `CMP A, dp+X`, opcode 0x74 (R251). -/
  | cmpADpX (o : Byte)
  /-- `CMP A, !abs+X`, opcode 0x75 (R253). -/
  | cmpAAbsX (addr : Word)
  /-- `CMP A, !abs+Y`, opcode 0x76 (R254). -/
  | cmpAAbsY (addr : Word)
  /-- `CMP A, [dp]+Y`, opcode 0x77 (R256). -/
  | cmpAIndIdx (o : Byte)
  /-- `CMP dp, #imm`, opcode 0x78 (R336). -/
  | cmpDpImm (dst : Byte) (imm : Byte)
  /-- `ADDW AX, dp`, opcode 0x7A (R281). -/
  | addwAXDp (o : Byte)
  /-- `ROR dp+X`, opcode 0x7B (R305). -/
  | rorDpX (o : Byte)
  /-- `CMP Y, dp`, opcode 0x7E (R279). -/
  | cmpYDp (o : Byte)
  /-- `SET1 dp.4`, opcode 0x82 (R323). -/
  | set1b4 (o : Byte)
  /-- `BBS dp.4, rel`, opcode 0x83 (R200). -/
  | bbs4 (o : Byte) (r : Byte)
  /-- `ADC A, dp`, opcode 0x84 (R259). -/
  | adcADp (o : Byte)
  /-- `ADC A, !abs`, opcode 0x85 (R261). -/
  | adcAAbs (addr : Word)
  /-- `ADC A, [dp+X]`, opcode 0x87 (R264). -/
  | adcAIdxInd (o : Byte)
  /-- `ADC A, #imm`, opcode 0x88 (R257). -/
  | adcAImm (imm : Byte)
  /-- `ADC dd, ds`, opcode 0x89 (R338). -/
  | adcDpDp (dst : Byte) (src : Byte)
  /-- `EOR1 C, m.b`, opcode 0x8A (R288). -/
  | eor1CBit (m : Word) (b : BitVec 3)
  /-- `DEC dp`, opcode 0x8B (R308). -/
  | decDp (o : Byte)
  /-- `DEC !abs`, opcode 0x8C (R310). -/
  | decAbs (addr : Word)
  /-- `MOV Y, #imm`, opcode 0x8D (R143). -/
  | movYImm (imm : Byte)
  /-- `MOV dp, #imm`, opcode 0x8F (R181). -/
  | movDpImm (dst : Byte) (imm : Byte)
  /-- `BCC rel`, opcode 0x90 (R195). -/
  | bcc (r : Byte)
  /-- `CLR1 dp.4`, opcode 0x92 (R324). -/
  | clr1b4 (o : Byte)
  /-- `BBC dp.4, rel`, opcode 0x93 (R201). -/
  | bbc4 (o : Byte) (r : Byte)
  /-- `ADC A, dp+X`, opcode 0x94 (R260). -/
  | adcADpX (o : Byte)
  /-- `ADC A, !abs+X`, opcode 0x95 (R262). -/
  | adcAAbsX (addr : Word)
  /-- `ADC A, !abs+Y`, opcode 0x96 (R263). -/
  | adcAAbsY (addr : Word)
  /-- `ADC A, [dp]+Y`, opcode 0x97 (R265). -/
  | adcAIndIdx (o : Byte)
  /-- `ADC dp, #imm`, opcode 0x98 (R339). -/
  | adcDpImm (dst : Byte) (imm : Byte)
  /-- `SUBW AX, dp`, opcode 0x9A (R282). -/
  | subwAXDp (o : Byte)
  /-- `DEC dp+X`, opcode 0x9B (R309). -/
  | decDpX (o : Byte)
  /-- `SET1 dp.5`, opcode 0xA2 (R323). -/
  | set1b5 (o : Byte)
  /-- `BBS dp.5, rel`, opcode 0xA3 (R200). -/
  | bbs5 (o : Byte) (r : Byte)
  /-- `SBC A, dp`, opcode 0xA4 (R268). -/
  | sbcADp (o : Byte)
  /-- `SBC A, !abs`, opcode 0xA5 (R270). -/
  | sbcAAbs (addr : Word)
  /-- `SBC A, [dp+X]`, opcode 0xA7 (R273). -/
  | sbcAIdxInd (o : Byte)
  /-- `SBC A, #imm`, opcode 0xA8 (R266). -/
  | sbcAImm (imm : Byte)
  /-- `SBC dd, ds`, opcode 0xA9 (R341). -/
  | sbcDpDp (dst : Byte) (src : Byte)
  /-- `MOV1 C, m.b`, opcode 0xAA (R184). -/
  | mov1CBit (m : Word) (b : BitVec 3)
  /-- `INC dp`, opcode 0xAB (R312). -/
  | incDp (o : Byte)
  /-- `INC !abs`, opcode 0xAC (R314). -/
  | incAbs (addr : Word)
  /-- `CMP Y, #imm`, opcode 0xAD (R278). -/
  | cmpYImm (imm : Byte)
  /-- `BCS rel`, opcode 0xB0 (R194). -/
  | bcs (r : Byte)
  /-- `CLR1 dp.5`, opcode 0xB2 (R324). -/
  | clr1b5 (o : Byte)
  /-- `BBC dp.5, rel`, opcode 0xB3 (R201). -/
  | bbc5 (o : Byte) (r : Byte)
  /-- `SBC A, dp+X`, opcode 0xB4 (R269). -/
  | sbcADpX (o : Byte)
  /-- `SBC A, !abs+X`, opcode 0xB5 (R271). -/
  | sbcAAbsX (addr : Word)
  /-- `SBC A, !abs+Y`, opcode 0xB6 (R272). -/
  | sbcAAbsY (addr : Word)
  /-- `SBC A, [dp]+Y`, opcode 0xB7 (R274). -/
  | sbcAIndIdx (o : Byte)
  /-- `SBC dp, #imm`, opcode 0xB8 (R342). -/
  | sbcDpImm (dst : Byte) (imm : Byte)
  /-- `MOVW AX, dp`, opcode 0xBA (R182). -/
  | movwAXDp (o : Byte)
  /-- `INC dp+X`, opcode 0xBB (R313). -/
  | incDpX (o : Byte)
  /-- `SET1 dp.6`, opcode 0xC2 (R323). -/
  | set1b6 (o : Byte)
  /-- `BBS dp.6, rel`, opcode 0xC3 (R200). -/
  | bbs6 (o : Byte) (r : Byte)
  /-- `MOV dp, A`, opcode 0xC4 (R161). -/
  | movDpA (o : Byte)
  /-- `MOV !abs, A`, opcode 0xC5 (R167). -/
  | movAbsA (addr : Word)
  /-- `MOV [dp+X], A`, opcode 0xC7 (R172). -/
  | movIdxIndA (o : Byte)
  /-- `CMP X, #imm`, opcode 0xC8 (R275). -/
  | cmpXImm (imm : Byte)
  /-- `MOV !abs, X`, opcode 0xC9 (R168). -/
  | movAbsX (addr : Word)
  /-- `MOV1 m.b, C`, opcode 0xCA (R185). -/
  | mov1BitC (m : Word) (b : BitVec 3)
  /-- `MOV dp, Y`, opcode 0xCB (R163). -/
  | movDpY (o : Byte)
  /-- `MOV !abs, Y`, opcode 0xCC (R169). -/
  | movAbsY (addr : Word)
  /-- `MOV X, #imm`, opcode 0xCD (R142). -/
  | movXImm (imm : Byte)
  /-- `BNE rel`, opcode 0xD0 (R193). -/
  | bne (r : Byte)
  /-- `CLR1 dp.6`, opcode 0xD2 (R324). -/
  | clr1b6 (o : Byte)
  /-- `BBC dp.6, rel`, opcode 0xD3 (R201). -/
  | bbc6 (o : Byte) (r : Byte)
  /-- `MOV dp+X, A`, opcode 0xD4 (R164). -/
  | movDpXA (o : Byte)
  /-- `MOV !abs+X, A`, opcode 0xD5 (R170). -/
  | movAbsXA (addr : Word)
  /-- `MOV !abs+Y, A`, opcode 0xD6 (R171). -/
  | movAbsYA (addr : Word)
  /-- `MOV [dp]+Y, A`, opcode 0xD7 (R173). -/
  | movIndIdxA (o : Byte)
  /-- `MOV dp, X`, opcode 0xD8 (R162). -/
  | movDpX (o : Byte)
  /-- `MOV dp+Y, X`, opcode 0xD9 (R165). -/
  | movDpYX (o : Byte)
  /-- `MOVW dp, AX`, opcode 0xDA (R183). -/
  | movwDpAX (o : Byte)
  /-- `MOV dp+X, Y`, opcode 0xDB (R166). -/
  | movDpXY (o : Byte)
  /-- `CBNE dp+X, rel`, opcode 0xDE (R203). -/
  | cbneDpX (o : Byte) (r : Byte)
  /-- `SET1 dp.7`, opcode 0xE2 (R323). -/
  | set1b7 (o : Byte)
  /-- `BBS dp.7, rel`, opcode 0xE3 (R200). -/
  | bbs7 (o : Byte) (r : Byte)
  /-- `MOV A, dp`, opcode 0xE4 (R146). -/
  | movADp (o : Byte)
  /-- `MOV A, !abs`, opcode 0xE5 (R152). -/
  | movAAbs (addr : Word)
  /-- `MOV A, [dp+X]`, opcode 0xE7 (R157). -/
  | movAIdxInd (o : Byte)
  /-- `MOV A, #imm`, opcode 0xE8 (R141). -/
  | movAImm (imm : Byte)
  /-- `MOV X, !abs`, opcode 0xE9 (R153). -/
  | movXAbs (addr : Word)
  /-- `NOT1 m.b`, opcode 0xEA (R325). -/
  | not1Bit (m : Word) (b : BitVec 3)
  /-- `MOV Y, dp`, opcode 0xEB (R148). -/
  | movYDp (o : Byte)
  /-- `MOV Y, !abs`, opcode 0xEC (R154). -/
  | movYAbs (addr : Word)
  /-- `BEQ rel`, opcode 0xF0 (R192). -/
  | beq (r : Byte)
  /-- `CLR1 dp.7`, opcode 0xF2 (R324). -/
  | clr1b7 (o : Byte)
  /-- `BBC dp.7, rel`, opcode 0xF3 (R201). -/
  | bbc7 (o : Byte) (r : Byte)
  /-- `MOV A, dp+X`, opcode 0xF4 (R149). -/
  | movADpX (o : Byte)
  /-- `MOV A, !abs+X`, opcode 0xF5 (R155). -/
  | movAAbsX (addr : Word)
  /-- `MOV A, !abs+Y`, opcode 0xF6 (R156). -/
  | movAAbsY (addr : Word)
  /-- `MOV A, [dp]+Y`, opcode 0xF7 (R158). -/
  | movAIndIdx (o : Byte)
  /-- `MOV X, dp`, opcode 0xF8 (R147). -/
  | movXDp (o : Byte)
  /-- `MOV X, dp+Y`, opcode 0xF9 (R150). -/
  | movXDpY (o : Byte)
  /-- `MOV dd, ds`, opcode 0xFA (R180). -/
  | movDpDp (dst : Byte) (src : Byte)
  /-- `MOV Y, dp+X`, opcode 0xFB (R151). -/
  | movYDpX (o : Byte)
  /-- `DBNZ Y, rel`, opcode 0xFE (R205). -/
  | dbnzY (r : Byte)
  /-- `NOP`, opcode 0x00 (R351). -/
  | nop
  /-- `TCALL 0`, opcode 0x01 (R210). -/
  | tcall0
  /-- `OR A, (X)`, opcode 0x06 (R222). -/
  | orAIndX
  /-- `PUSH PSW`, opcode 0x0D (R368). -/
  | pushPsw
  /-- `BRK`, opcode 0x0F (R211). -/
  | brk
  /-- `TCALL 1`, opcode 0x11 (R210). -/
  | tcall1
  /-- `OR (X), (Y)`, opcode 0x19 (R328). -/
  | orIndXIndY
  /-- `ASL A`, opcode 0x1C (R291). -/
  | aslA
  /-- `DEC X`, opcode 0x1D (R316). -/
  | decX
  /-- `CLRP`, opcode 0x20 (R359). -/
  | clrp
  /-- `TCALL 2`, opcode 0x21 (R210). -/
  | tcall2
  /-- `AND A, (X)`, opcode 0x26 (R231). -/
  | andAIndX
  /-- `PUSH A`, opcode 0x2D (R365). -/
  | pushA
  /-- `TCALL 3`, opcode 0x31 (R210). -/
  | tcall3
  /-- `AND (X), (Y)`, opcode 0x39 (R331). -/
  | andIndXIndY
  /-- `ROL A`, opcode 0x3C (R295). -/
  | rolA
  /-- `INC X`, opcode 0x3D (R315). -/
  | incX
  /-- `SETP`, opcode 0x40 (R360). -/
  | setp
  /-- `TCALL 4`, opcode 0x41 (R210). -/
  | tcall4
  /-- `EOR A, (X)`, opcode 0x46 (R240). -/
  | eorAIndX
  /-- `PUSH X`, opcode 0x4D (R366). -/
  | pushX
  /-- `TCALL 5`, opcode 0x51 (R210). -/
  | tcall5
  /-- `EOR (X), (Y)`, opcode 0x59 (R334). -/
  | eorIndXIndY
  /-- `LSR A`, opcode 0x5C (R299). -/
  | lsrA
  /-- `MOV X, A`, opcode 0x5D (R176). -/
  | movXA
  /-- `CLRC`, opcode 0x60 (R357). -/
  | clrc
  /-- `TCALL 6`, opcode 0x61 (R210). -/
  | tcall6
  /-- `CMP A, (X)`, opcode 0x66 (R249). -/
  | cmpAIndX
  /-- `PUSH Y`, opcode 0x6D (R367). -/
  | pushY
  /-- `RET`, opcode 0x6F (R212). -/
  | ret
  /-- `TCALL 7`, opcode 0x71 (R210). -/
  | tcall7
  /-- `CMP (X), (Y)`, opcode 0x79 (R337). -/
  | cmpIndXIndY
  /-- `ROR A`, opcode 0x7C (R303). -/
  | rorA
  /-- `MOV A, X`, opcode 0x7D (R174). -/
  | movAX
  /-- `RETI`, opcode 0x7F (R213). -/
  | reti
  /-- `SETC`, opcode 0x80 (R358). -/
  | setc
  /-- `TCALL 8`, opcode 0x81 (R210). -/
  | tcall8
  /-- `ADC A, (X)`, opcode 0x86 (R258). -/
  | adcAIndX
  /-- `POP PSW`, opcode 0x8E (R372). -/
  | popPsw
  /-- `TCALL 9`, opcode 0x91 (R210). -/
  | tcall9
  /-- `ADC (X), (Y)`, opcode 0x99 (R340). -/
  | adcIndXIndY
  /-- `DEC A`, opcode 0x9C (R307). -/
  | decA
  /-- `MOV X, SP`, opcode 0x9D (R178). -/
  | movXSP
  /-- `DIV AX, Y`, opcode 0x9E (R374). -/
  | divAXY
  /-- `XCN A`, opcode 0x9F (R354). -/
  | xcn
  /-- `EI`, opcode 0xA0 (R363). -/
  | ei
  /-- `TCALL 10`, opcode 0xA1 (R210). -/
  | tcall10
  /-- `SBC A, (X)`, opcode 0xA6 (R267). -/
  | sbcAIndX
  /-- `POP A`, opcode 0xAE (R369). -/
  | popA
  /-- `MOV (X)+, A`, opcode 0xAF (R160). -/
  | movIndXIncA
  /-- `TCALL 11`, opcode 0xB1 (R210). -/
  | tcall11
  /-- `SBC (X), (Y)`, opcode 0xB9 (R343). -/
  | sbcIndXIndY
  /-- `INC A`, opcode 0xBC (R311). -/
  | incA
  /-- `MOV SP, X`, opcode 0xBD (R179). -/
  | movSPX
  /-- `DAS A`, opcode 0xBE (R356). -/
  | das
  /-- `MOV A, (X)+`, opcode 0xBF (R145). -/
  | movAIndXInc
  /-- `DI`, opcode 0xC0 (R364). -/
  | di
  /-- `TCALL 12`, opcode 0xC1 (R210). -/
  | tcall12
  /-- `MOV (X), A`, opcode 0xC6 (R159). -/
  | movIndXA
  /-- `POP X`, opcode 0xCE (R370). -/
  | popX
  /-- `MUL AX`, opcode 0xCF (R373). -/
  | mulAX
  /-- `TCALL 13`, opcode 0xD1 (R210). -/
  | tcall13
  /-- `DEC Y`, opcode 0xDC (R318). -/
  | decY
  /-- `MOV A, Y`, opcode 0xDD (R175). -/
  | movAY
  /-- `DAA A`, opcode 0xDF (R355). -/
  | daa
  /-- `CLRV`, opcode 0xE0 (R361). -/
  | clrv
  /-- `TCALL 14`, opcode 0xE1 (R210). -/
  | tcall14
  /-- `MOV A, (X)`, opcode 0xE6 (R144). -/
  | movAIndX
  /-- `NOTC`, opcode 0xED (R362). -/
  | notc
  /-- `POP Y`, opcode 0xEE (R371). -/
  | popY
  /-- `SLEEP`, opcode 0xEF (R352). -/
  | sleep
  /-- `TCALL 15`, opcode 0xF1 (R210). -/
  | tcall15
  /-- `INC Y`, opcode 0xFC (R317). -/
  | incY
  /-- `MOV Y, A`, opcode 0xFD (R177). -/
  | movYA
  /-- `STOP`, opcode 0xFF (R353). -/
  | stop
  deriving DecidableEq, Repr

end Sys2Proof
end

