-- ==== Sys2Proof/WellFormed.lean ====
section
/-! DEFINITION. When an instruction term stands for encoded bytes. Every operand byte is legal in every format (R401);
only the address of a bit operand is narrower than its Lean type: 13 bits (R78, R129). -/

namespace Sys2Proof

/-- The check on a bit operand's address: it is one of 0x0000 to 0x1FFF (R78). -/
def bitAddressOk (m : Word) : Bool := decide (m.toNat < 0x2000)

/-- The well-formedness check, constructor by constructor. -/
def Instr.wellFormed : Instr → Bool
  | .nop => true
  | .tcall0 => true
  | .set1b0 _ => true
  | .bbs0 _ _ => true
  | .orADp _ => true
  | .orAAbs _ => true
  | .orAIndX => true
  | .orAIdxInd _ => true
  | .orAImm _ => true
  | .orDpDp _ _ => true
  | .or1CBit m _ => bitAddressOk m
  | .aslDp _ => true
  | .aslAbs _ => true
  | .pushPsw => true
  | .tset1Abs _ => true
  | .brk => true
  | .bpl _ => true
  | .tcall1 => true
  | .clr1b0 _ => true
  | .bbc0 _ _ => true
  | .orADpX _ => true
  | .orAAbsX _ => true
  | .orAAbsY _ => true
  | .orAIndIdx _ => true
  | .orDpImm _ _ => true
  | .orIndXIndY => true
  | .decwDp _ => true
  | .aslDpX _ => true
  | .aslA => true
  | .decX => true
  | .cmpXAbs _ => true
  | .jmpAbsXInd _ => true
  | .clrp => true
  | .tcall2 => true
  | .set1b1 _ => true
  | .bbs1 _ _ => true
  | .andADp _ => true
  | .andAAbs _ => true
  | .andAIndX => true
  | .andAIdxInd _ => true
  | .andAImm _ => true
  | .andDpDp _ _ => true
  | .or1CNotBit m _ => bitAddressOk m
  | .rolDp _ => true
  | .rolAbs _ => true
  | .pushA => true
  | .cbneDp _ _ => true
  | .bra _ => true
  | .bmi _ => true
  | .tcall3 => true
  | .clr1b1 _ => true
  | .bbc1 _ _ => true
  | .andADpX _ => true
  | .andAAbsX _ => true
  | .andAAbsY _ => true
  | .andAIndIdx _ => true
  | .andDpImm _ _ => true
  | .andIndXIndY => true
  | .incwDp _ => true
  | .rolDpX _ => true
  | .rolA => true
  | .incX => true
  | .cmpXDp _ => true
  | .call _ => true
  | .setp => true
  | .tcall4 => true
  | .set1b2 _ => true
  | .bbs2 _ _ => true
  | .eorADp _ => true
  | .eorAAbs _ => true
  | .eorAIndX => true
  | .eorAIdxInd _ => true
  | .eorAImm _ => true
  | .eorDpDp _ _ => true
  | .and1CBit m _ => bitAddressOk m
  | .lsrDp _ => true
  | .lsrAbs _ => true
  | .pushX => true
  | .tclr1Abs _ => true
  | .pcall _ => true
  | .bvc _ => true
  | .tcall5 => true
  | .clr1b2 _ => true
  | .bbc2 _ _ => true
  | .eorADpX _ => true
  | .eorAAbsX _ => true
  | .eorAAbsY _ => true
  | .eorAIndIdx _ => true
  | .eorDpImm _ _ => true
  | .eorIndXIndY => true
  | .cmpwAXDp _ => true
  | .lsrDpX _ => true
  | .lsrA => true
  | .movXA => true
  | .cmpYAbs _ => true
  | .jmpAbs _ => true
  | .clrc => true
  | .tcall6 => true
  | .set1b3 _ => true
  | .bbs3 _ _ => true
  | .cmpADp _ => true
  | .cmpAAbs _ => true
  | .cmpAIndX => true
  | .cmpAIdxInd _ => true
  | .cmpAImm _ => true
  | .cmpDpDp _ _ => true
  | .and1CNotBit m _ => bitAddressOk m
  | .rorDp _ => true
  | .rorAbs _ => true
  | .pushY => true
  | .dbnzDp _ _ => true
  | .ret => true
  | .bvs _ => true
  | .tcall7 => true
  | .clr1b3 _ => true
  | .bbc3 _ _ => true
  | .cmpADpX _ => true
  | .cmpAAbsX _ => true
  | .cmpAAbsY _ => true
  | .cmpAIndIdx _ => true
  | .cmpDpImm _ _ => true
  | .cmpIndXIndY => true
  | .addwAXDp _ => true
  | .rorDpX _ => true
  | .rorA => true
  | .movAX => true
  | .cmpYDp _ => true
  | .reti => true
  | .setc => true
  | .tcall8 => true
  | .set1b4 _ => true
  | .bbs4 _ _ => true
  | .adcADp _ => true
  | .adcAAbs _ => true
  | .adcAIndX => true
  | .adcAIdxInd _ => true
  | .adcAImm _ => true
  | .adcDpDp _ _ => true
  | .eor1CBit m _ => bitAddressOk m
  | .decDp _ => true
  | .decAbs _ => true
  | .movYImm _ => true
  | .popPsw => true
  | .movDpImm _ _ => true
  | .bcc _ => true
  | .tcall9 => true
  | .clr1b4 _ => true
  | .bbc4 _ _ => true
  | .adcADpX _ => true
  | .adcAAbsX _ => true
  | .adcAAbsY _ => true
  | .adcAIndIdx _ => true
  | .adcDpImm _ _ => true
  | .adcIndXIndY => true
  | .subwAXDp _ => true
  | .decDpX _ => true
  | .decA => true
  | .movXSP => true
  | .divAXY => true
  | .xcn => true
  | .ei => true
  | .tcall10 => true
  | .set1b5 _ => true
  | .bbs5 _ _ => true
  | .sbcADp _ => true
  | .sbcAAbs _ => true
  | .sbcAIndX => true
  | .sbcAIdxInd _ => true
  | .sbcAImm _ => true
  | .sbcDpDp _ _ => true
  | .mov1CBit m _ => bitAddressOk m
  | .incDp _ => true
  | .incAbs _ => true
  | .cmpYImm _ => true
  | .popA => true
  | .movIndXIncA => true
  | .bcs _ => true
  | .tcall11 => true
  | .clr1b5 _ => true
  | .bbc5 _ _ => true
  | .sbcADpX _ => true
  | .sbcAAbsX _ => true
  | .sbcAAbsY _ => true
  | .sbcAIndIdx _ => true
  | .sbcDpImm _ _ => true
  | .sbcIndXIndY => true
  | .movwAXDp _ => true
  | .incDpX _ => true
  | .incA => true
  | .movSPX => true
  | .das => true
  | .movAIndXInc => true
  | .di => true
  | .tcall12 => true
  | .set1b6 _ => true
  | .bbs6 _ _ => true
  | .movDpA _ => true
  | .movAbsA _ => true
  | .movIndXA => true
  | .movIdxIndA _ => true
  | .cmpXImm _ => true
  | .movAbsX _ => true
  | .mov1BitC m _ => bitAddressOk m
  | .movDpY _ => true
  | .movAbsY _ => true
  | .movXImm _ => true
  | .popX => true
  | .mulAX => true
  | .bne _ => true
  | .tcall13 => true
  | .clr1b6 _ => true
  | .bbc6 _ _ => true
  | .movDpXA _ => true
  | .movAbsXA _ => true
  | .movAbsYA _ => true
  | .movIndIdxA _ => true
  | .movDpX _ => true
  | .movDpYX _ => true
  | .movwDpAX _ => true
  | .movDpXY _ => true
  | .decY => true
  | .movAY => true
  | .cbneDpX _ _ => true
  | .daa => true
  | .clrv => true
  | .tcall14 => true
  | .set1b7 _ => true
  | .bbs7 _ _ => true
  | .movADp _ => true
  | .movAAbs _ => true
  | .movAIndX => true
  | .movAIdxInd _ => true
  | .movAImm _ => true
  | .movXAbs _ => true
  | .not1Bit m _ => bitAddressOk m
  | .movYDp _ => true
  | .movYAbs _ => true
  | .notc => true
  | .popY => true
  | .sleep => true
  | .beq _ => true
  | .tcall15 => true
  | .clr1b7 _ => true
  | .bbc7 _ _ => true
  | .movADpX _ => true
  | .movAAbsX _ => true
  | .movAAbsY _ => true
  | .movAIndIdx _ => true
  | .movXDp _ => true
  | .movXDpY _ => true
  | .movDpDp _ _ => true
  | .movYDpX _ => true
  | .incY => true
  | .movYA => true
  | .dbnzY _ => true
  | .stop => true

/-- The instruction is well formed. -/
abbrev Instr.WellFormed (i : Instr) : Prop := i.wellFormed = true

end Sys2Proof
end

