-- ==== Sys2Proof/Decode.lean ====
section
/-! DEFINITION. The decoder, total over the 256 opcode bytes (R80, R380), and the encoder, both written from the ten
formats of 30_encoding.md and the matrix of R81; and the byte-order helpers they share with the machine. -/

namespace Sys2Proof

/-! ### Bytes and words -/

/-- The low byte of a word (R26, R52). -/
def wordLow (w : Word) : Byte := w.extractLsb' 0 8

/-- The high byte of a word (R26, R52). -/
def wordHigh (w : Word) : Byte := w.extractLsb' 8 8

/-- A word from its high and low bytes, `(hi << 8) | lo` (R52). -/
def wordOf (hi lo : Byte) : Word := (hi ++ lo : BitVec (8 + 8))

/-- A word's bytes in the order they are stored, low byte first (R52). -/
def wordBytes (w : Word) : List Byte := [wordLow w, wordHigh w]

/-- The operand word of `m.b` (R78): the bit number in bits 15:13, the address in bits 12:0. -/
def bitOperand (m : Word) (b : BitVec 3) : Word := (b ++ m.extractLsb' 0 13 : BitVec (3 + 13))

/-- The address in the operand word of `m.b`, bits 12:0 (R78). -/
def bitAddress (w : Word) : Word := w &&& 0x1FFF

/-- The bit number in the operand word of `m.b`, bits 15:13 (R78). -/
def bitNumber (w : Word) : BitVec 3 := w.extractLsb' 13 3

/-! ### The opcode matrix -/

/-- When the third byte of an instruction is fetched, if a data access comes before it (R70). -/
inductive LateFetch where
  /-- After the read of the direct-page byte that byte 1 names: `dd, ds`, `BBS`, `BBC`, `CBNE dp`. -/
  | afterRead
  /-- After the index cycle and the read: `CBNE dp+X` (R203). -/
  | afterIndexedRead
  /-- After the read and the write of the decremented byte: `DBNZ dp` (R204, log entry 5). -/
  | afterDecrement
  deriving DecidableEq, Repr

/-- What one cell of the matrix says of its instruction: the operand bytes it takes and what they make. -/
inductive Slot where
  /-- One byte (R71). -/
  | implied (i : Instr)
  /-- Two bytes (R72, R73, and REL of R77). -/
  | operand (f : Byte → Instr)
  /-- Three bytes, fetched back to back (R76). -/
  | twoOperands (f : Byte → Byte → Instr)
  /-- Three bytes, bytes 1 and 2 a little-endian word (R74). -/
  | wordOperand (f : Word → Instr)
  /-- Three bytes, bytes 1 and 2 a bit operand (R78). -/
  | bitOperand (f : Word → BitVec 3 → Instr)
  /-- Three bytes, the third fetched after a data access (R75, and DPREL of R77). -/
  | late (k : LateFetch) (f : Byte → Byte → Instr)

/-- How many operand bytes the cell's instruction has (R70). -/
def Slot.operandCount : Slot → Nat
  | .implied _ => 0
  | .operand _ => 1
  | .twoOperands _ => 2
  | .wordOperand _ => 2
  | .bitOperand _ => 2
  | .late _ _ => 2

/-- The instruction a cell makes of operand bytes 1 and 2; bytes the format does not have are not looked at. -/
def Slot.build (b1 b2 : Byte) : Slot → Instr
  | .implied i => i
  | .operand f => f b1
  | .twoOperands f => f b1 b2
  | .wordOperand f => f (wordOf b2 b1)
  | .bitOperand f => f (bitAddress (wordOf b2 b1)) (bitNumber (wordOf b2 b1))
  | .late _ f => f b1 b2

/-- Row 0x of the opcode matrix (R81). -/
def slotRow0 : List Slot :=
  [ .implied .nop,
    .implied .tcall0,
    .operand .set1b0,
    .late .afterRead .bbs0,
    .operand .orADp,
    .wordOperand .orAAbs,
    .implied .orAIndX,
    .operand .orAIdxInd,
    .operand .orAImm,
    .late .afterRead (fun src dst => .orDpDp dst src),
    .bitOperand .or1CBit,
    .operand .aslDp,
    .wordOperand .aslAbs,
    .implied .pushPsw,
    .wordOperand .tset1Abs,
    .implied .brk ]

/-- Row 1x of the opcode matrix (R81). -/
def slotRow1 : List Slot :=
  [ .operand .bpl,
    .implied .tcall1,
    .operand .clr1b0,
    .late .afterRead .bbc0,
    .operand .orADpX,
    .wordOperand .orAAbsX,
    .wordOperand .orAAbsY,
    .operand .orAIndIdx,
    .twoOperands (fun imm dst => .orDpImm dst imm),
    .implied .orIndXIndY,
    .operand .decwDp,
    .operand .aslDpX,
    .implied .aslA,
    .implied .decX,
    .wordOperand .cmpXAbs,
    .wordOperand .jmpAbsXInd ]

/-- Row 2x of the opcode matrix (R81). -/
def slotRow2 : List Slot :=
  [ .implied .clrp,
    .implied .tcall2,
    .operand .set1b1,
    .late .afterRead .bbs1,
    .operand .andADp,
    .wordOperand .andAAbs,
    .implied .andAIndX,
    .operand .andAIdxInd,
    .operand .andAImm,
    .late .afterRead (fun src dst => .andDpDp dst src),
    .bitOperand .or1CNotBit,
    .operand .rolDp,
    .wordOperand .rolAbs,
    .implied .pushA,
    .late .afterRead .cbneDp,
    .operand .bra ]

/-- Row 3x of the opcode matrix (R81). -/
def slotRow3 : List Slot :=
  [ .operand .bmi,
    .implied .tcall3,
    .operand .clr1b1,
    .late .afterRead .bbc1,
    .operand .andADpX,
    .wordOperand .andAAbsX,
    .wordOperand .andAAbsY,
    .operand .andAIndIdx,
    .twoOperands (fun imm dst => .andDpImm dst imm),
    .implied .andIndXIndY,
    .operand .incwDp,
    .operand .rolDpX,
    .implied .rolA,
    .implied .incX,
    .operand .cmpXDp,
    .wordOperand .call ]

/-- Row 4x of the opcode matrix (R81). -/
def slotRow4 : List Slot :=
  [ .implied .setp,
    .implied .tcall4,
    .operand .set1b2,
    .late .afterRead .bbs2,
    .operand .eorADp,
    .wordOperand .eorAAbs,
    .implied .eorAIndX,
    .operand .eorAIdxInd,
    .operand .eorAImm,
    .late .afterRead (fun src dst => .eorDpDp dst src),
    .bitOperand .and1CBit,
    .operand .lsrDp,
    .wordOperand .lsrAbs,
    .implied .pushX,
    .wordOperand .tclr1Abs,
    .operand .pcall ]

/-- Row 5x of the opcode matrix (R81). -/
def slotRow5 : List Slot :=
  [ .operand .bvc,
    .implied .tcall5,
    .operand .clr1b2,
    .late .afterRead .bbc2,
    .operand .eorADpX,
    .wordOperand .eorAAbsX,
    .wordOperand .eorAAbsY,
    .operand .eorAIndIdx,
    .twoOperands (fun imm dst => .eorDpImm dst imm),
    .implied .eorIndXIndY,
    .operand .cmpwAXDp,
    .operand .lsrDpX,
    .implied .lsrA,
    .implied .movXA,
    .wordOperand .cmpYAbs,
    .wordOperand .jmpAbs ]

/-- Row 6x of the opcode matrix (R81). -/
def slotRow6 : List Slot :=
  [ .implied .clrc,
    .implied .tcall6,
    .operand .set1b3,
    .late .afterRead .bbs3,
    .operand .cmpADp,
    .wordOperand .cmpAAbs,
    .implied .cmpAIndX,
    .operand .cmpAIdxInd,
    .operand .cmpAImm,
    .late .afterRead (fun src dst => .cmpDpDp dst src),
    .bitOperand .and1CNotBit,
    .operand .rorDp,
    .wordOperand .rorAbs,
    .implied .pushY,
    .late .afterDecrement .dbnzDp,
    .implied .ret ]

/-- Row 7x of the opcode matrix (R81). -/
def slotRow7 : List Slot :=
  [ .operand .bvs,
    .implied .tcall7,
    .operand .clr1b3,
    .late .afterRead .bbc3,
    .operand .cmpADpX,
    .wordOperand .cmpAAbsX,
    .wordOperand .cmpAAbsY,
    .operand .cmpAIndIdx,
    .twoOperands (fun imm dst => .cmpDpImm dst imm),
    .implied .cmpIndXIndY,
    .operand .addwAXDp,
    .operand .rorDpX,
    .implied .rorA,
    .implied .movAX,
    .operand .cmpYDp,
    .implied .reti ]

/-- Row 8x of the opcode matrix (R81). -/
def slotRow8 : List Slot :=
  [ .implied .setc,
    .implied .tcall8,
    .operand .set1b4,
    .late .afterRead .bbs4,
    .operand .adcADp,
    .wordOperand .adcAAbs,
    .implied .adcAIndX,
    .operand .adcAIdxInd,
    .operand .adcAImm,
    .late .afterRead (fun src dst => .adcDpDp dst src),
    .bitOperand .eor1CBit,
    .operand .decDp,
    .wordOperand .decAbs,
    .operand .movYImm,
    .implied .popPsw,
    .twoOperands (fun imm dst => .movDpImm dst imm) ]

/-- Row 9x of the opcode matrix (R81). -/
def slotRow9 : List Slot :=
  [ .operand .bcc,
    .implied .tcall9,
    .operand .clr1b4,
    .late .afterRead .bbc4,
    .operand .adcADpX,
    .wordOperand .adcAAbsX,
    .wordOperand .adcAAbsY,
    .operand .adcAIndIdx,
    .twoOperands (fun imm dst => .adcDpImm dst imm),
    .implied .adcIndXIndY,
    .operand .subwAXDp,
    .operand .decDpX,
    .implied .decA,
    .implied .movXSP,
    .implied .divAXY,
    .implied .xcn ]

/-- Row Ax of the opcode matrix (R81). -/
def slotRowA : List Slot :=
  [ .implied .ei,
    .implied .tcall10,
    .operand .set1b5,
    .late .afterRead .bbs5,
    .operand .sbcADp,
    .wordOperand .sbcAAbs,
    .implied .sbcAIndX,
    .operand .sbcAIdxInd,
    .operand .sbcAImm,
    .late .afterRead (fun src dst => .sbcDpDp dst src),
    .bitOperand .mov1CBit,
    .operand .incDp,
    .wordOperand .incAbs,
    .operand .cmpYImm,
    .implied .popA,
    .implied .movIndXIncA ]

/-- Row Bx of the opcode matrix (R81). -/
def slotRowB : List Slot :=
  [ .operand .bcs,
    .implied .tcall11,
    .operand .clr1b5,
    .late .afterRead .bbc5,
    .operand .sbcADpX,
    .wordOperand .sbcAAbsX,
    .wordOperand .sbcAAbsY,
    .operand .sbcAIndIdx,
    .twoOperands (fun imm dst => .sbcDpImm dst imm),
    .implied .sbcIndXIndY,
    .operand .movwAXDp,
    .operand .incDpX,
    .implied .incA,
    .implied .movSPX,
    .implied .das,
    .implied .movAIndXInc ]

/-- Row Cx of the opcode matrix (R81). -/
def slotRowC : List Slot :=
  [ .implied .di,
    .implied .tcall12,
    .operand .set1b6,
    .late .afterRead .bbs6,
    .operand .movDpA,
    .wordOperand .movAbsA,
    .implied .movIndXA,
    .operand .movIdxIndA,
    .operand .cmpXImm,
    .wordOperand .movAbsX,
    .bitOperand .mov1BitC,
    .operand .movDpY,
    .wordOperand .movAbsY,
    .operand .movXImm,
    .implied .popX,
    .implied .mulAX ]

/-- Row Dx of the opcode matrix (R81). -/
def slotRowD : List Slot :=
  [ .operand .bne,
    .implied .tcall13,
    .operand .clr1b6,
    .late .afterRead .bbc6,
    .operand .movDpXA,
    .wordOperand .movAbsXA,
    .wordOperand .movAbsYA,
    .operand .movIndIdxA,
    .operand .movDpX,
    .operand .movDpYX,
    .operand .movwDpAX,
    .operand .movDpXY,
    .implied .decY,
    .implied .movAY,
    .late .afterIndexedRead .cbneDpX,
    .implied .daa ]

/-- Row Ex of the opcode matrix (R81). -/
def slotRowE : List Slot :=
  [ .implied .clrv,
    .implied .tcall14,
    .operand .set1b7,
    .late .afterRead .bbs7,
    .operand .movADp,
    .wordOperand .movAAbs,
    .implied .movAIndX,
    .operand .movAIdxInd,
    .operand .movAImm,
    .wordOperand .movXAbs,
    .bitOperand .not1Bit,
    .operand .movYDp,
    .wordOperand .movYAbs,
    .implied .notc,
    .implied .popY,
    .implied .sleep ]

/-- Row Fx of the opcode matrix (R81). -/
def slotRowF : List Slot :=
  [ .operand .beq,
    .implied .tcall15,
    .operand .clr1b7,
    .late .afterRead .bbc7,
    .operand .movADpX,
    .wordOperand .movAAbsX,
    .wordOperand .movAAbsY,
    .operand .movAIndIdx,
    .operand .movXDp,
    .operand .movXDpY,
    .late .afterRead (fun src dst => .movDpDp dst src),
    .operand .movYDpX,
    .implied .incY,
    .implied .movYA,
    .operand .dbnzY,
    .implied .stop ]

/-- The opcode matrix (R81): 256 cells in the order of the opcode byte. -/
def opcodeMatrix : List Slot :=
  slotRow0 ++ slotRow1 ++ slotRow2 ++ slotRow3 ++ slotRow4 ++ slotRow5 ++ slotRow6 ++ slotRow7 ++
  slotRow8 ++ slotRow9 ++ slotRowA ++ slotRowB ++ slotRowC ++ slotRowD ++ slotRowE ++ slotRowF

/-- All 256 cells are filled (R80). -/
theorem opcodeMatrix_length : opcodeMatrix.length = 256 := by
  simp only [opcodeMatrix, List.length_append, slotRow0, slotRow1, slotRow2, slotRow3, slotRow4, slotRow5, slotRow6, slotRow7,
    slotRow8, slotRow9, slotRowA, slotRowB, slotRowC, slotRowD, slotRowE, slotRowF, List.length_cons, List.length_nil]

/-- The cell of an opcode byte: there is always one (R380). -/
def slotOf (op : Byte) : Slot := opcodeMatrix[op.toNat]'(opcodeMatrix_length ▸ op.isLt)

/-- The instruction of an opcode byte and the two bytes after it. -/
def decodeBytes (op b1 b2 : Byte) : Instr := (slotOf op).build b1 b2

/-- Why a list of bytes holds no instruction. Every opcode byte is defined (R401), so only missing bytes can fail. -/
inductive DecodeError where
  /-- The list is empty. -/
  | noOpcode
  /-- Operand byte 1 is missing. -/
  | missingOperand1 (op : Byte)
  /-- Operand byte 2 is missing. -/
  | missingOperand2 (op b1 : Byte)
  deriving DecidableEq, Repr

/-- Decode the instruction at the head of a list of bytes, and give the bytes after it (R70). -/
def decode : List Byte → Except DecodeError (Instr × List Byte)
  | [] => .error .noOpcode
  | op :: rest =>
    match (slotOf op).operandCount, rest with
    | 0, _ => .ok (decodeBytes op 0 0, rest)
    | _ + 1, [] => .error (.missingOperand1 op)
    | 1, b1 :: rest => .ok (decodeBytes op b1 0, rest)
    | _ + 2, [b1] => .error (.missingOperand2 op b1)
    | _ + 2, b1 :: b2 :: rest => .ok (decodeBytes op b1 b2, rest)

/-- Byte `k` of an instruction numbered as opcode_table.json numbers its bits: bit 0 is the lowest bit of the opcode
byte, and every bit from `nbits` up is 0. -/
def tableByte (nbits w k : Nat) : Byte := BitVec.ofNat 8 (w % 2 ^ nbits / 256 ^ k)

/-- The instruction the decoder reads from the bytes of a table word. -/
def decodeTableWord (nbits w : Nat) : Option Instr :=
  match decode [tableByte nbits w 0, tableByte nbits w 1, tableByte nbits w 2] with
  | .ok (i, _) => some i
  | .error _ => none

/-! ### The encoder -/

/-- The bytes of an instruction in address order (R71 to R79). -/
def encode : Instr → List Byte
  | .nop => [0x00]
  | .tcall0 => [0x01]
  | .set1b0 o => [0x02, o]
  | .bbs0 o r => [0x03, o, r]
  | .orADp o => [0x04, o]
  | .orAAbs addr => 0x05 :: wordBytes addr
  | .orAIndX => [0x06]
  | .orAIdxInd o => [0x07, o]
  | .orAImm imm => [0x08, imm]
  | .orDpDp dst src => [0x09, src, dst]
  | .or1CBit m b => 0x0A :: wordBytes (bitOperand m b)
  | .aslDp o => [0x0B, o]
  | .aslAbs addr => 0x0C :: wordBytes addr
  | .pushPsw => [0x0D]
  | .tset1Abs addr => 0x0E :: wordBytes addr
  | .brk => [0x0F]
  | .bpl r => [0x10, r]
  | .tcall1 => [0x11]
  | .clr1b0 o => [0x12, o]
  | .bbc0 o r => [0x13, o, r]
  | .orADpX o => [0x14, o]
  | .orAAbsX addr => 0x15 :: wordBytes addr
  | .orAAbsY addr => 0x16 :: wordBytes addr
  | .orAIndIdx o => [0x17, o]
  | .orDpImm dst imm => [0x18, imm, dst]
  | .orIndXIndY => [0x19]
  | .decwDp o => [0x1A, o]
  | .aslDpX o => [0x1B, o]
  | .aslA => [0x1C]
  | .decX => [0x1D]
  | .cmpXAbs addr => 0x1E :: wordBytes addr
  | .jmpAbsXInd addr => 0x1F :: wordBytes addr
  | .clrp => [0x20]
  | .tcall2 => [0x21]
  | .set1b1 o => [0x22, o]
  | .bbs1 o r => [0x23, o, r]
  | .andADp o => [0x24, o]
  | .andAAbs addr => 0x25 :: wordBytes addr
  | .andAIndX => [0x26]
  | .andAIdxInd o => [0x27, o]
  | .andAImm imm => [0x28, imm]
  | .andDpDp dst src => [0x29, src, dst]
  | .or1CNotBit m b => 0x2A :: wordBytes (bitOperand m b)
  | .rolDp o => [0x2B, o]
  | .rolAbs addr => 0x2C :: wordBytes addr
  | .pushA => [0x2D]
  | .cbneDp o r => [0x2E, o, r]
  | .bra r => [0x2F, r]
  | .bmi r => [0x30, r]
  | .tcall3 => [0x31]
  | .clr1b1 o => [0x32, o]
  | .bbc1 o r => [0x33, o, r]
  | .andADpX o => [0x34, o]
  | .andAAbsX addr => 0x35 :: wordBytes addr
  | .andAAbsY addr => 0x36 :: wordBytes addr
  | .andAIndIdx o => [0x37, o]
  | .andDpImm dst imm => [0x38, imm, dst]
  | .andIndXIndY => [0x39]
  | .incwDp o => [0x3A, o]
  | .rolDpX o => [0x3B, o]
  | .rolA => [0x3C]
  | .incX => [0x3D]
  | .cmpXDp o => [0x3E, o]
  | .call addr => 0x3F :: wordBytes addr
  | .setp => [0x40]
  | .tcall4 => [0x41]
  | .set1b2 o => [0x42, o]
  | .bbs2 o r => [0x43, o, r]
  | .eorADp o => [0x44, o]
  | .eorAAbs addr => 0x45 :: wordBytes addr
  | .eorAIndX => [0x46]
  | .eorAIdxInd o => [0x47, o]
  | .eorAImm imm => [0x48, imm]
  | .eorDpDp dst src => [0x49, src, dst]
  | .and1CBit m b => 0x4A :: wordBytes (bitOperand m b)
  | .lsrDp o => [0x4B, o]
  | .lsrAbs addr => 0x4C :: wordBytes addr
  | .pushX => [0x4D]
  | .tclr1Abs addr => 0x4E :: wordBytes addr
  | .pcall u => [0x4F, u]
  | .bvc r => [0x50, r]
  | .tcall5 => [0x51]
  | .clr1b2 o => [0x52, o]
  | .bbc2 o r => [0x53, o, r]
  | .eorADpX o => [0x54, o]
  | .eorAAbsX addr => 0x55 :: wordBytes addr
  | .eorAAbsY addr => 0x56 :: wordBytes addr
  | .eorAIndIdx o => [0x57, o]
  | .eorDpImm dst imm => [0x58, imm, dst]
  | .eorIndXIndY => [0x59]
  | .cmpwAXDp o => [0x5A, o]
  | .lsrDpX o => [0x5B, o]
  | .lsrA => [0x5C]
  | .movXA => [0x5D]
  | .cmpYAbs addr => 0x5E :: wordBytes addr
  | .jmpAbs addr => 0x5F :: wordBytes addr
  | .clrc => [0x60]
  | .tcall6 => [0x61]
  | .set1b3 o => [0x62, o]
  | .bbs3 o r => [0x63, o, r]
  | .cmpADp o => [0x64, o]
  | .cmpAAbs addr => 0x65 :: wordBytes addr
  | .cmpAIndX => [0x66]
  | .cmpAIdxInd o => [0x67, o]
  | .cmpAImm imm => [0x68, imm]
  | .cmpDpDp dst src => [0x69, src, dst]
  | .and1CNotBit m b => 0x6A :: wordBytes (bitOperand m b)
  | .rorDp o => [0x6B, o]
  | .rorAbs addr => 0x6C :: wordBytes addr
  | .pushY => [0x6D]
  | .dbnzDp o r => [0x6E, o, r]
  | .ret => [0x6F]
  | .bvs r => [0x70, r]
  | .tcall7 => [0x71]
  | .clr1b3 o => [0x72, o]
  | .bbc3 o r => [0x73, o, r]
  | .cmpADpX o => [0x74, o]
  | .cmpAAbsX addr => 0x75 :: wordBytes addr
  | .cmpAAbsY addr => 0x76 :: wordBytes addr
  | .cmpAIndIdx o => [0x77, o]
  | .cmpDpImm dst imm => [0x78, imm, dst]
  | .cmpIndXIndY => [0x79]
  | .addwAXDp o => [0x7A, o]
  | .rorDpX o => [0x7B, o]
  | .rorA => [0x7C]
  | .movAX => [0x7D]
  | .cmpYDp o => [0x7E, o]
  | .reti => [0x7F]
  | .setc => [0x80]
  | .tcall8 => [0x81]
  | .set1b4 o => [0x82, o]
  | .bbs4 o r => [0x83, o, r]
  | .adcADp o => [0x84, o]
  | .adcAAbs addr => 0x85 :: wordBytes addr
  | .adcAIndX => [0x86]
  | .adcAIdxInd o => [0x87, o]
  | .adcAImm imm => [0x88, imm]
  | .adcDpDp dst src => [0x89, src, dst]
  | .eor1CBit m b => 0x8A :: wordBytes (bitOperand m b)
  | .decDp o => [0x8B, o]
  | .decAbs addr => 0x8C :: wordBytes addr
  | .movYImm imm => [0x8D, imm]
  | .popPsw => [0x8E]
  | .movDpImm dst imm => [0x8F, imm, dst]
  | .bcc r => [0x90, r]
  | .tcall9 => [0x91]
  | .clr1b4 o => [0x92, o]
  | .bbc4 o r => [0x93, o, r]
  | .adcADpX o => [0x94, o]
  | .adcAAbsX addr => 0x95 :: wordBytes addr
  | .adcAAbsY addr => 0x96 :: wordBytes addr
  | .adcAIndIdx o => [0x97, o]
  | .adcDpImm dst imm => [0x98, imm, dst]
  | .adcIndXIndY => [0x99]
  | .subwAXDp o => [0x9A, o]
  | .decDpX o => [0x9B, o]
  | .decA => [0x9C]
  | .movXSP => [0x9D]
  | .divAXY => [0x9E]
  | .xcn => [0x9F]
  | .ei => [0xA0]
  | .tcall10 => [0xA1]
  | .set1b5 o => [0xA2, o]
  | .bbs5 o r => [0xA3, o, r]
  | .sbcADp o => [0xA4, o]
  | .sbcAAbs addr => 0xA5 :: wordBytes addr
  | .sbcAIndX => [0xA6]
  | .sbcAIdxInd o => [0xA7, o]
  | .sbcAImm imm => [0xA8, imm]
  | .sbcDpDp dst src => [0xA9, src, dst]
  | .mov1CBit m b => 0xAA :: wordBytes (bitOperand m b)
  | .incDp o => [0xAB, o]
  | .incAbs addr => 0xAC :: wordBytes addr
  | .cmpYImm imm => [0xAD, imm]
  | .popA => [0xAE]
  | .movIndXIncA => [0xAF]
  | .bcs r => [0xB0, r]
  | .tcall11 => [0xB1]
  | .clr1b5 o => [0xB2, o]
  | .bbc5 o r => [0xB3, o, r]
  | .sbcADpX o => [0xB4, o]
  | .sbcAAbsX addr => 0xB5 :: wordBytes addr
  | .sbcAAbsY addr => 0xB6 :: wordBytes addr
  | .sbcAIndIdx o => [0xB7, o]
  | .sbcDpImm dst imm => [0xB8, imm, dst]
  | .sbcIndXIndY => [0xB9]
  | .movwAXDp o => [0xBA, o]
  | .incDpX o => [0xBB, o]
  | .incA => [0xBC]
  | .movSPX => [0xBD]
  | .das => [0xBE]
  | .movAIndXInc => [0xBF]
  | .di => [0xC0]
  | .tcall12 => [0xC1]
  | .set1b6 o => [0xC2, o]
  | .bbs6 o r => [0xC3, o, r]
  | .movDpA o => [0xC4, o]
  | .movAbsA addr => 0xC5 :: wordBytes addr
  | .movIndXA => [0xC6]
  | .movIdxIndA o => [0xC7, o]
  | .cmpXImm imm => [0xC8, imm]
  | .movAbsX addr => 0xC9 :: wordBytes addr
  | .mov1BitC m b => 0xCA :: wordBytes (bitOperand m b)
  | .movDpY o => [0xCB, o]
  | .movAbsY addr => 0xCC :: wordBytes addr
  | .movXImm imm => [0xCD, imm]
  | .popX => [0xCE]
  | .mulAX => [0xCF]
  | .bne r => [0xD0, r]
  | .tcall13 => [0xD1]
  | .clr1b6 o => [0xD2, o]
  | .bbc6 o r => [0xD3, o, r]
  | .movDpXA o => [0xD4, o]
  | .movAbsXA addr => 0xD5 :: wordBytes addr
  | .movAbsYA addr => 0xD6 :: wordBytes addr
  | .movIndIdxA o => [0xD7, o]
  | .movDpX o => [0xD8, o]
  | .movDpYX o => [0xD9, o]
  | .movwDpAX o => [0xDA, o]
  | .movDpXY o => [0xDB, o]
  | .decY => [0xDC]
  | .movAY => [0xDD]
  | .cbneDpX o r => [0xDE, o, r]
  | .daa => [0xDF]
  | .clrv => [0xE0]
  | .tcall14 => [0xE1]
  | .set1b7 o => [0xE2, o]
  | .bbs7 o r => [0xE3, o, r]
  | .movADp o => [0xE4, o]
  | .movAAbs addr => 0xE5 :: wordBytes addr
  | .movAIndX => [0xE6]
  | .movAIdxInd o => [0xE7, o]
  | .movAImm imm => [0xE8, imm]
  | .movXAbs addr => 0xE9 :: wordBytes addr
  | .not1Bit m b => 0xEA :: wordBytes (bitOperand m b)
  | .movYDp o => [0xEB, o]
  | .movYAbs addr => 0xEC :: wordBytes addr
  | .notc => [0xED]
  | .popY => [0xEE]
  | .sleep => [0xEF]
  | .beq r => [0xF0, r]
  | .tcall15 => [0xF1]
  | .clr1b7 o => [0xF2, o]
  | .bbc7 o r => [0xF3, o, r]
  | .movADpX o => [0xF4, o]
  | .movAAbsX addr => 0xF5 :: wordBytes addr
  | .movAAbsY addr => 0xF6 :: wordBytes addr
  | .movAIndIdx o => [0xF7, o]
  | .movXDp o => [0xF8, o]
  | .movXDpY o => [0xF9, o]
  | .movDpDp dst src => [0xFA, src, dst]
  | .movYDpX o => [0xFB, o]
  | .incY => [0xFC]
  | .movYA => [0xFD]
  | .dbnzY r => [0xFE, r]
  | .stop => [0xFF]

end Sys2Proof
end

