-- ==== Sys2Proof/Machine/Flags.lean ====
section
/-! DEFINITION. The ALU primitives of 40_algorithms.md: each takes its operands and the status word and gives its
result and the new status word, with no bus access and no cycle (R90). -/

namespace Sys2Proof.Machine

/-- PSW read as a byte, C at bit 0 (R32). -/
def Psw.toByte (p : Psw) : Byte :=
  (BitVec.ofBool p.n ++ BitVec.ofBool p.v ++ BitVec.ofBool p.p ++ BitVec.ofBool p.b ++
    BitVec.ofBool p.h ++ BitVec.ofBool p.i ++ BitVec.ofBool p.z ++ BitVec.ofBool p.c : BitVec 8)

/-- PSW written from a byte: each flag takes the matching bit (R32). -/
def Psw.ofByte (v : Byte) : Psw where
  c := v.getLsbD 0
  z := v.getLsbD 1
  i := v.getLsbD 2
  h := v.getLsbD 3
  b := v.getLsbD 4
  p := v.getLsbD 5
  v := v.getLsbD 6
  n := v.getLsbD 7

/-- `SetNZ8(v)` (R93). -/
def Psw.setNZ8 (p : Psw) (v : Byte) : Psw := { p with n := v.getLsbD 7, z := v == 0 }

/-- `SetNZ16(w)` (R93). -/
def Psw.setNZ16 (p : Psw) (w : Word) : Psw := { p with n := w.getLsbD 15, z := w == 0 }

/-- What a byte primitive gives (R90). -/
structure Alu8 where
  value : Byte
  psw : Psw
  deriving DecidableEq, Repr

/-- What a widened primitive gives (R90). -/
structure Alu16 where
  value : Word
  psw : Psw
  deriving DecidableEq, Repr

/-- What `DIV` gives: two bytes and the status word (R113). -/
structure AluDiv where
  quo : Byte
  rem : Byte
  psw : Psw
  deriving DecidableEq, Repr

/-- `OR(a, b)` (R94). -/
def aluOr (a b : Byte) (p : Psw) : Alu8 := ⟨a ||| b, p.setNZ8 (a ||| b)⟩

/-- `AND(a, b)` (R95). -/
def aluAnd (a b : Byte) (p : Psw) : Alu8 := ⟨a &&& b, p.setNZ8 (a &&& b)⟩

/-- `EOR(a, b)` (R96). -/
def aluEor (a b : Byte) (p : Psw) : Alu8 := ⟨a ^^^ b, p.setNZ8 (a ^^^ b)⟩

/-- `CMP(a, b)` (R97): the flags of a subtraction with no borrow in; V and H stay. -/
def aluCmp (a b : Byte) (p : Psw) : Psw :=
  { p.setNZ8 (a - b) with c := decide (b.toNat ≤ a.toNat) }

/-- `ADC(a, b)` (R98), over the unbounded sum. -/
def aluAdc (a b : Byte) (p : Psw) : Alu8 :=
  let sum := a.toNat + b.toNat + p.c.toNat
  let r := BitVec.ofNat 8 sum
  ⟨r, { p with
    n := r.getLsbD 7
    v := ((a ^^^ b ^^^ 0xFF) &&& (a ^^^ r)).getLsbD 7
    h := (a ^^^ b ^^^ r).getLsbD 4
    z := r == 0
    c := decide (0xFF < sum) }⟩

/-- `SBC(a, b)` (R99): exactly `ADC(a, b ^ 0xFF)`. -/
def aluSbc (a b : Byte) (p : Psw) : Alu8 := aluAdc a (b ^^^ 0xFF) p

/-- `ASL(v)` (R100): the incoming C is not used. -/
def aluAsl (v : Byte) (p : Psw) : Alu8 := ⟨v <<< 1, { p.setNZ8 (v <<< 1) with c := v.getLsbD 7 }⟩

/-- `LSR(v)` (R101): the incoming C is not used. -/
def aluLsr (v : Byte) (p : Psw) : Alu8 := ⟨v >>> 1, { p.setNZ8 (v >>> 1) with c := v.getLsbD 0 }⟩

/-- `ROL(v)` (R102): the incoming C enters at bit 0. -/
def aluRol (v : Byte) (p : Psw) : Alu8 :=
  let r := v <<< 1 ||| (BitVec.ofBool p.c).setWidth 8
  ⟨r, { p.setNZ8 r with c := v.getLsbD 7 }⟩

/-- `ROR(v)` (R103): the incoming C enters at bit 7. -/
def aluRor (v : Byte) (p : Psw) : Alu8 :=
  let r := (BitVec.ofBool p.c).setWidth 8 <<< 7 ||| v >>> 1
  ⟨r, { p.setNZ8 r with c := v.getLsbD 0 }⟩

/-- `INC(v)` (R104): C, V and H stay. -/
def aluInc (v : Byte) (p : Psw) : Alu8 := ⟨v + 1, p.setNZ8 (v + 1)⟩

/-- `DEC(v)` (R105): C, V and H stay. -/
def aluDec (v : Byte) (p : Psw) : Alu8 := ⟨v - 1, p.setNZ8 (v - 1)⟩

/-- `ADDW(a, b)` (R106): two chained `ADC` steps from C = 0, Z over all 16 bits. -/
def aluAddw (a b : Word) (p : Psw) : Alu16 :=
  let lo := aluAdc (wordLow a) (wordLow b) { p with c := false }
  let hi := aluAdc (wordHigh a) (wordHigh b) lo.psw
  let r := wordOf hi.value lo.value
  ⟨r, { hi.psw with z := r == 0 }⟩

/-- `SUBW(a, b)` (R107): two chained `SBC` steps from C = 1, Z over all 16 bits. -/
def aluSubw (a b : Word) (p : Psw) : Alu16 :=
  let lo := aluSbc (wordLow a) (wordLow b) { p with c := true }
  let hi := aluSbc (wordHigh a) (wordHigh b) lo.psw
  let r := wordOf hi.value lo.value
  ⟨r, { hi.psw with z := r == 0 }⟩

/-- `CMPW(a, b)` (R108): V and H stay. -/
def aluCmpw (a b : Word) (p : Psw) : Psw :=
  { p.setNZ16 (a - b) with c := decide (b.toNat ≤ a.toNat) }

/-- `DAA(a)` (R109): both corrections in order; C can only be set. -/
def aluDaa (a : Byte) (p : Psw) : Alu8 :=
  let high := p.c || decide (0x99 < a.toNat)
  let a1 := if high then a + 0x60 else a
  let a2 := if p.h || decide (9 < (a1 &&& 0x0F).toNat) then a1 + 0x06 else a1
  ⟨a2, { p.setNZ8 a2 with c := high }⟩

/-- `DAS(a)` (R110): both corrections in order; C can only be cleared. -/
def aluDas (a : Byte) (p : Psw) : Alu8 :=
  let high := !p.c || decide (0x99 < a.toNat)
  let a1 := if high then a - 0x60 else a
  let a2 := if !p.h || decide (9 < (a1 &&& 0x0F).toNat) then a1 - 0x06 else a1
  ⟨a2, { p.setNZ8 a2 with c := !high }⟩

/-- `bit(v, b)` (R8, R111). -/
def bitOf (v : Byte) (b : BitVec 3) : Bool := v.getLsbD b.toNat

/-- `1 << b` as a byte (R8, R111). -/
def bitMask (b : BitVec 3) : Byte := (1 : Byte) <<< b.toNat

/-- `setbit(v, b, c)` (R8, R111). -/
def setBit (v : Byte) (b : BitVec 3) (c : Bool) : Byte :=
  if c then v ||| bitMask b else v &&& (0xFF ^^^ bitMask b)

/-- `MUL(a, b)` (R112): unsigned; N and Z over the whole product. -/
def aluMul (a b : Byte) (p : Psw) : Alu16 :=
  let r := BitVec.ofNat 16 (a.toNat * b.toNat)
  ⟨r, p.setNZ16 r⟩

/-- `DIV(w, d)` (R113): total, a zero divisor included. -/
def aluDiv (w : Word) (d : Byte) (p : Psw) : AluDiv :=
  let hi := w.toNat / 256
  let dv := d.toNat
  let t := w.toNat - dv * 512
  let quo := BitVec.ofNat 8 (if hi < 2 * dv then w.toNat / dv else 255 - t / (256 - dv))
  let rem := BitVec.ofNat 8 (if hi < 2 * dv then w.toNat % dv else dv + t % (256 - dv))
  ⟨quo, rem, { p.setNZ8 quo with v := decide (dv ≤ hi), h := decide (dv % 16 ≤ hi % 16) }⟩

end Sys2Proof.Machine
end

