-- ==== Sys2Proof/Machine/Ops.lean ====
section
/-! DEFINITION. The named operations over memory, the bus and the registers, and the taking of the one trap with the
return from it. Every cycle of the machine is spent by one of them (R7). -/

namespace Sys2Proof.Machine

/-! ### Memory -/

/-- The canonical form: addresses strictly rising and inside the 16-bit space (R50), no entry equal to what an
unlisted address reads as. -/
abbrev Memory.wf (m : Memory) : Prop :=
  m.Pairwise (fun c d => c.1 < d.1) ∧ ∀ c ∈ m, c.1 < 65536 ∧ c.2 ≠ Config.unlistedByte

/-- The byte at an address. -/
def memByte : Memory → Nat → Byte
  | [], _ => Config.unlistedByte
  | (k, v) :: rest, a => if k = a then v else memByte rest a

/-- Put an entry before the first entry of a greater address. -/
def memInsert (a : Nat) (v : Byte) : Memory → Memory
  | [] => [(a, v)]
  | (k, w) :: rest => if a < k then (a, v) :: (k, w) :: rest else (k, w) :: memInsert a v rest

/-- Write a byte: the old entry goes, and the new one is listed unless it is what an unlisted address reads as. -/
def memStore (m : Memory) (a : Nat) (v : Byte) : Memory :=
  let rest := m.filter (fun c => c.1 != a)
  if v = Config.unlistedByte then rest else memInsert a v rest

/-- Read one byte of a state's memory: no cycle, no bus event. -/
def State.memAt (s : State) (a : Word) : Byte := memByte s.mem a.toNat

/-! ### The bus and the four cycle primitives (R7) -/

/-- The byte `read8(a)` returns when the cycle counter stands at `n` and memory is `m` (R51, R64): the oracle's byte
for that cycle if it holds one, else the memory byte (log entry 2). -/
def busAnswer (oracle : List (Nat × Byte)) (n : Nat) (m : Memory) (a : Word) : Byte :=
  match oracle.lookup n with
  | some v => v
  | none => memByte m a.toNat

/-- The byte `read8(a)` returns `k` cycles from now, if nothing is written in between. -/
def State.busAt (s : State) (k : Nat) (a : Word) : Byte := busAnswer s.oracle (s.cycles + k) s.mem a

/-- The byte `read8(a)` returns when it is called now. -/
def State.bus (s : State) (a : Word) : Byte := busAnswer s.oracle s.cycles s.mem a

/-- One cycle passes, and the trace says what it did. -/
def State.tick (s : State) (e : BusEvent) : State :=
  { s with cycles := s.cycles + 1, trace := e :: s.trace }

/-- `Idle()` (R7). -/
def State.idle (s : State) : State := s.tick .idle

/-- `Idle()` repeated `n` times. -/
def State.idles (s : State) (n : Nat) : State :=
  { s with cycles := s.cycles + n, trace := List.replicate n .idle ++ s.trace }

/-- The state after `MemRead(a, 1)` (R7); its value is `s.bus a`. -/
def State.read (s : State) (a : Word) : State :=
  { s.tick (.read a (s.bus a)) with latch2 := s.bus a }

/-- `discard MemRead(a, 1)` (R57): a bus read whose byte goes nowhere. -/
def State.discardRead (s : State) (a : Word) : State := s.tick (.discard a (s.bus a))

/-- `MemWrite(a, 1, v)` (R7). -/
def State.write (s : State) (a : Word) (v : Byte) : State :=
  { s.tick (.write a v) with mem := memStore s.mem a.toNat v }

/-- `Fetch()` of an opcode byte (R7, R381). -/
def State.fetchOpcode (s : State) (op : Byte) : State :=
  { s.tick (.fetch s.pc op) with pc := s.pc + 1 }

/-- `Fetch()` of operand byte 1 (R7, R43). -/
def State.fetchOperand1 (s : State) (v : Byte) : State :=
  { s.tick (.fetch s.pc v) with pc := s.pc + 1, latch0 := v }

/-- `Fetch()` of operand byte 2 (R7, R43). -/
def State.fetchOperand2 (s : State) (v : Byte) : State :=
  { s.tick (.fetch s.pc v) with pc := s.pc + 1, latch1 := v }

/-- The fetches of a 2-byte instruction. -/
def State.fetch2 (s : State) (op b1 : Byte) : State := (s.fetchOpcode op).fetchOperand1 b1

/-- The fetches of a 3-byte instruction that fetches its bytes back to back. -/
def State.fetch3 (s : State) (op b1 b2 : Byte) : State := (s.fetch2 op b1).fetchOperand2 b2

/-- The fetches of an instruction with a 16-bit operand, low byte first (R74). -/
def State.fetchWord (s : State) (op : Byte) (w : Word) : State := s.fetch3 op (wordLow w) (wordHigh w)

/-- The fetches of an instruction with a bit operand (R78). -/
def State.fetchBit (s : State) (op : Byte) (m : Word) (b : BitVec 3) : State :=
  s.fetchWord op (bitOperand m b)

/-! ### Registers (R24 to R26, R32) -/

/-- The pair AX, read (R26): A is the high byte. -/
def State.ax (s : State) : Word := wordOf s.a s.x

/-- The pair AX, written (R26). -/
def State.setAX (s : State) (w : Word) : State := { s with a := wordHigh w, x := wordLow w }

/-- `A <- v; SetNZ8(A)`. -/
def State.loadA (s : State) (v : Byte) : State := { s with a := v, psw := s.psw.setNZ8 v }

/-- `X <- v; SetNZ8(X)`. -/
def State.loadX (s : State) (v : Byte) : State := { s with x := v, psw := s.psw.setNZ8 v }

/-- `Y <- v; SetNZ8(Y)`. -/
def State.loadY (s : State) (v : Byte) : State := { s with y := v, psw := s.psw.setNZ8 v }

/-- `x[i]` read (R24). -/
def State.getReg (s : State) : RegIndex → Byte
  | .a => s.a
  | .x => s.x
  | .y => s.y
  | .sp => s.sp

/-- `x[i] <- v` (R24, R25). -/
def State.setReg (s : State) (r : RegIndex) (v : Byte) : State :=
  match r with
  | .a => { s with a := v }
  | .x => { s with x := v }
  | .y => { s with y := v }
  | .sp => { s with sp := v }

/-! ### Direct page and stack -/

/-- `DP(o)` (R122): the offset in the window that P selects, read now (R33). -/
def State.dp (s : State) (o : Byte) : Word := wordOf (if s.psw.p then 0x01 else 0x00) o

/-- The address SP points at (R27): always in 0x0100 to 0x01FF. -/
def State.stackAddr (s : State) : Word := wordOf 0x01 s.sp

/-- `Push(v)` (R29, R131): write, then SP goes down, wrapping in the page (R28). -/
def State.push (s : State) (v : Byte) : State := { s.write s.stackAddr v with sp := s.sp - 1 }

/-- SP goes up, the first half of `Pop()` (R29). -/
def State.raiseSp (s : State) : State := { s with sp := s.sp + 1 }

/-- The byte `Pop()` returns (R29, R131). -/
def State.popValue (s : State) : Byte := s.raiseSp.bus s.raiseSp.stackAddr

/-- The state after `Pop()` (R29, R131). -/
def State.pop (s : State) : State := s.raiseSp.read s.raiseSp.stackAddr

/-- Push a return address, high byte first (R29). -/
def State.pushWord (s : State) (w : Word) : State := (s.push (wordHigh w)).push (wordLow w)

/-- The word at an address and the next one, low byte read first, the second address wrapping at 16 bits
(R52, R133, R135). -/
def State.wordValue (s : State) (a : Word) : Word := wordOf ((s.read a).bus (a + 1)) (s.bus a)

/-- The state after the two reads of `wordValue`. -/
def State.readWord (s : State) (a : Word) : State := (s.read a).read (a + 1)

/-- The word two pops give, low byte first (R29). -/
def State.popWordValue (s : State) : Word := wordOf s.pop.popValue s.popValue

/-- The state after those two pops. -/
def State.popWord (s : State) : State := s.pop.pop

/-! ### Vectors (R55, R135) -/

/-- The reset vector: 0xFFFE (R433). -/
def resetVector : Word := 0xFFFE

/-- The `BRK` vector: 0xFFDE (R404). -/
def breakVector : Word := 0xFFDE

/-- The call table's entry `n`: 0xFFDE - 2n (R210). -/
def callVector (n : Nat) : Word := BitVec.ofNat 16 (0xFFDE - 2 * n)

/-! ### The one trap and the return from it -/

/-- Trap entry (R404, R211), from the state after the opcode fetch: the vector is read, two internal cycles pass, PC
and the old PSW are pushed, and only then PC, B and I change. There is no mode switch and no cause record. -/
def State.takeBreak (s : State) : State :=
  let target := s.wordValue breakVector
  let t := (((s.readWord breakVector).idles 2).pushWord s.pc).push s.psw.toByte
  { t with pc := target, psw := { s.psw with b := true, i := false } }

/-- Trap return (R405, R213), from the state after the opcode fetch: PSW, PC low, PC high are popped. -/
def State.returnFromBreak (s : State) : State :=
  let target := s.pop.popWordValue
  let t := s.pop.popWord.idles 2
  { t with pc := target, psw := Psw.ofByte s.popValue }

end Sys2Proof.Machine
end

