-- ==== Sys2Proof/Machine/BlockMove.lean ====
section
/-! DEFINITION. The parameterised block move (R186), reached only through a slot of `BLKMOV_SLOTS` (R86), which the
model leaves empty (log entry 6). -/

namespace Sys2Proof.Machine

/-- A register value moved one place in the direction of the variant, at 8 bits (R186). -/
def blockAdvance (d : BlockDirection) (v : Byte) : Byte :=
  match d with
  | .increment => v + 1
  | .decrement => v - 1

/-- One pass of the loop (R186): a byte is moved, the indexes advance, the count goes down. -/
def State.blockPass (s : State) (bm : BlockMove) : State :=
  let from_ := s.dp (s.getReg bm.src)
  let to_ := s.dp (s.getReg bm.dst)
  let moved := ((s.read from_).write to_ (s.bus from_)).idles (bm.iter - 2)
  let t1 := moved.setReg bm.src (blockAdvance bm.dir (moved.getReg bm.src))
  let t2 := t1.setReg bm.dst (blockAdvance bm.dir (t1.getReg bm.dst))
  t2.setReg bm.cnt (t2.getReg bm.cnt - 1)

/-- The loop (R186): the test comes after the count goes down. `fuel` passes at most: 256 is enough for every
well-formed variant, whose count register only the count itself changes (log entry 14). -/
def State.blockLoop (bm : BlockMove) : Nat → State → State
  | 0, s => s
  | fuel + 1, s =>
    let t := s.blockPass bm
    if t.getReg bm.cnt = 0 then t else State.blockLoop bm fuel t

/-- A whole block move (R186): the opcode fetch, the rest of the base cost as internal cycles, the loop. -/
def State.blockMove (s : State) (bm : BlockMove) : State :=
  State.blockLoop bm 256 ((s.fetchOpcode (s.bus s.pc)).idles (bm.base - 1))

end Sys2Proof.Machine
end

