-- ==== Sys2Proof/Machine/Operands.lean ====
section
/-! DEFINITION. The addressing-mode resolvers of 41_addressing.md, and what the operation families do at a resolved
address. A resolver starts after the fetches of its operand bytes and spends the other cycles of its mode (R120). -/

namespace Sys2Proof.Machine

/-- A resolved operand: its effective address, and the state once the resolver's cycles are spent. -/
structure Resolved where
  addr : Word
  after : State
  deriving DecidableEq, Repr

/-- A source byte of a two-operand form, and the state once it is at hand. -/
structure Sourced where
  value : Byte
  after : State
  deriving DecidableEq, Repr

/-! ### Resolvers -/

/-- `dp` (R122). -/
def State.directPage (s : State) (o : Byte) : Resolved := ⟨s.dp o, s⟩

/-- `dp+X` (R123): the sum stays in the window. -/
def State.directPageX (s : State) (o : Byte) : Resolved := ⟨s.dp (o + s.x), s.idle⟩

/-- `dp+Y` (R123). -/
def State.directPageY (s : State) (o : Byte) : Resolved := ⟨s.dp (o + s.y), s.idle⟩

/-- `!abs` (R124). -/
def State.absolute (s : State) (a : Word) : Resolved := ⟨a, s⟩

/-- `!abs+X` (R125): the sum wraps at 16 bits. -/
def State.absoluteX (s : State) (a : Word) : Resolved := ⟨a + s.x.setWidth 16, s.idle⟩

/-- `!abs+Y` (R125). -/
def State.absoluteY (s : State) (a : Word) : Resolved := ⟨a + s.y.setWidth 16, s.idle⟩

/-- The pointer held at a direct-page offset, low byte read first, the high byte's offset wrapping in the window
(R122, R126, R127). -/
def State.pointerAt (s : State) (o : Byte) : Word :=
  wordOf ((s.read (s.dp o)).bus (s.dp (o + 1))) (s.bus (s.dp o))

/-- The state after the two reads of `pointerAt`. -/
def State.readPointer (s : State) (o : Byte) : State := (s.read (s.dp o)).read (s.dp (o + 1))

/-- `[dp+X]` (R126). -/
def State.indexedIndirect (s : State) (o : Byte) : Resolved :=
  ⟨s.idle.pointerAt (o + s.x), s.idle.readPointer (o + s.x)⟩

/-- `[dp]+Y` in a load (R127): the internal cycle comes before the pointer reads. -/
def State.indirectIndexed (s : State) (o : Byte) : Resolved :=
  ⟨s.idle.pointerAt o + s.y.setWidth 16, s.idle.readPointer o⟩

/-- `[dp]+Y` in a store (R127): the internal cycle comes after the pointer reads. -/
def State.indirectIndexedStore (s : State) (o : Byte) : Resolved :=
  ⟨s.pointerAt o + s.y.setWidth 16, (s.readPointer o).idle⟩

/-- `(X)` (R128). -/
def State.indirectX (s : State) : Resolved := ⟨s.dp s.x, s.idle⟩

/-- `m.b` (R129): the low 13 bits are the address. -/
def State.absoluteBit (s : State) (m : Word) : Resolved := ⟨bitAddress m, s⟩

/-- `(Y)` as the source of `OP (X), (Y)` (R128). -/
def State.indirectYSource (s : State) : Sourced := ⟨s.idle.bus (s.dp s.y), s.idle.read (s.dp s.y)⟩

/-- `ds` of `OP dd, ds` (R75): the source byte is read before the destination offset is fetched. -/
def State.directPageSource (s : State) (op src dst : Byte) : Sourced :=
  let t := s.fetch2 op src
  ⟨t.bus (t.dp src), (t.read (t.dp src)).fetchOperand2 dst⟩

/-- `#imm` of `OP dp, #imm` (R76): the immediate comes first in the byte stream. -/
def State.immediateSource (s : State) (op imm dst : Byte) : Sourced := ⟨imm, s.fetch3 op imm dst⟩

/-! ### What the families do at a resolved address -/

/-- The byte read at the address. -/
def Resolved.value (r : Resolved) : Byte := r.after.bus r.addr

/-- The state after that read. -/
def Resolved.read (r : Resolved) : State := r.after.read r.addr

/-- `A <- MemRead(ea, 1); SetNZ8(A)`. -/
def Resolved.loadA (r : Resolved) : State := r.read.loadA r.value

/-- `X <- MemRead(ea, 1); SetNZ8(X)`. -/
def Resolved.loadX (r : Resolved) : State := r.read.loadX r.value

/-- `Y <- MemRead(ea, 1); SetNZ8(Y)`. -/
def Resolved.loadY (r : Resolved) : State := r.read.loadY r.value

/-- A store (R140): a discarded read of the destination, then the write. -/
def Resolved.store (r : Resolved) (v : Byte) : State := (r.after.discardRead r.addr).write r.addr v

/-- `A <- f(A, v)` for a byte at hand (R220). -/
def State.combineA (s : State) (f : Byte → Byte → Psw → Alu8) (v : Byte) : State :=
  { s with a := (f s.a v s.psw).value, psw := (f s.a v s.psw).psw }

/-- `A <- f(A, MemRead(ea, 1))` (R220). -/
def Resolved.combineA (r : Resolved) (f : Byte → Byte → Psw → Alu8) : State := r.read.combineA f r.value

/-- `CMP(reg, v)` for a byte at hand (R220): only the flags change. -/
def State.compare (s : State) (reg v : Byte) : State := { s with psw := aluCmp reg v s.psw }

/-- `CMP(reg, MemRead(ea, 1))` (R220). -/
def Resolved.compare (r : Resolved) (reg : Byte) : State := r.read.compare reg r.value

/-- A read-modify-write (R58, R290): the read, then the write of `f` of it, at the same address. -/
def Resolved.modify (r : Resolved) (f : Byte → Psw → Alu8) : State :=
  let res := f r.value r.read.psw
  { r.read.write r.addr res.value with psw := res.psw }

/-- A read-modify-write that touches no flag (R323 to R325). -/
def Resolved.rewrite (r : Resolved) (f : Byte → Byte) : State := r.read.write r.addr (f r.value)

/-- `OP dest, source` with a memory destination (R326 to R343). -/
def Sourced.combineAt (src : Sourced) (f : Byte → Byte → Psw → Alu8) (dest : Word) : State :=
  Resolved.modify ⟨dest, src.after⟩ (fun t p => f t src.value p)

/-- `CMP dest, source` with a memory destination (R335 to R337): an internal cycle in place of the write. -/
def Sourced.compareAt (src : Sourced) (dest : Word) : State :=
  let r : Resolved := ⟨dest, src.after⟩
  (r.read.compare r.value src.value).idle

/-! ### Register forms, stack forms and branches -/

/-- The accumulator form of a primitive (R291 and its like): one internal cycle. -/
def State.modifyA (s : State) (f : Byte → Psw → Alu8) : State :=
  { s.idle with a := (f s.a s.psw).value, psw := (f s.a s.psw).psw }

/-- The X form of a primitive (R315, R316). -/
def State.modifyX (s : State) (f : Byte → Psw → Alu8) : State :=
  { s.idle with x := (f s.x s.psw).value, psw := (f s.x s.psw).psw }

/-- The Y form of a primitive (R317, R318). -/
def State.modifyY (s : State) (f : Byte → Psw → Alu8) : State :=
  { s.idle with y := (f s.y s.psw).value, psw := (f s.y s.psw).psw }

/-- The direct-page word at an offset in the forms with an internal cycle between the two reads (R132): its value. -/
def State.spacedWordValue (s : State) (o : Byte) : Word :=
  wordOf ((s.read (s.dp o)).idle.bus (s.dp (o + 1))) (s.bus (s.dp o))

/-- The state after the read, the internal cycle and the read of `spacedWordValue`. -/
def State.readSpacedWord (s : State) (o : Byte) : State :=
  ((s.read (s.dp o)).idle).read (s.dp (o + 1))

/-- A relative branch from the end of its instruction (R130): two internal cycles when it is taken. -/
def State.branchIf (s : State) (taken : Bool) (r : Byte) : State :=
  if taken then { s.idles 2 with pc := s.pc + r.signExtend 16 } else s

/-- `PUSH` after the opcode fetch (R365 to R368). -/
def State.pushRegister (s : State) (v : Byte) : State := (s.idles 2).push v

/-- The byte `POP` loads, after the opcode fetch (R369 to R372). -/
def State.popRegisterValue (s : State) : Byte := (s.idles 2).popValue

/-- The state after `POP`'s cycles, its destination still to be written. -/
def State.popRegister (s : State) : State := (s.idles 2).pop

/-- `TCALL n` after the opcode fetch (R210). -/
def State.callTable (s : State) (n : Nat) : State :=
  let target := s.wordValue (callVector n)
  { ((s.readWord (callVector n)).idles 3).pushWord s.pc with pc := target }

/-- `SET1 dp.b` (R323). -/
def State.setBitAt (s : State) (op o : Byte) (b : BitVec 3) : State :=
  ((s.fetch2 op o).directPage o).rewrite (fun v => v ||| bitMask b)

/-- `CLR1 dp.b` (R324). -/
def State.clearBitAt (s : State) (op o : Byte) (b : BitVec 3) : State :=
  ((s.fetch2 op o).directPage o).rewrite (fun v => v &&& (0xFF ^^^ bitMask b))

/-- `BBS` and `BBC` (R200, R201): the byte is read before the displacement is fetched. -/
def State.branchOnBit (s : State) (op o r : Byte) (b : BitVec 3) (want : Bool) : State :=
  let src := s.directPageSource op o r
  src.after.idle.branchIf (bitOf src.value b == want) r

end Sys2Proof.Machine
end

