-- ==== Sys2Proof/Machine/Control.lean ====
section
/-! DEFINITION. The control-flow family (R190 to R213). Only BRK and RETI write flags. Each meaning runs one whole instruction from the state with PC at its opcode byte: its
cycles are those of its row of opcode_table.json, in that order. -/

namespace Sys2Proof.Machine

/-- `BRA rel` (R191): `F F I I`. -/
def execBra (r : Byte) (s : State) : Host.Outcome State Fault Refusal :=
  .next ((s.fetch2 0x2F r).branchIf true r)

/-- `BEQ rel` (R192): `F F [I I]`. -/
def execBeq (r : Byte) (s : State) : Host.Outcome State Fault Refusal :=
  .next ((s.fetch2 0xF0 r).branchIf (s.psw.z) r)

/-- `BNE rel` (R193): `F F [I I]`. -/
def execBne (r : Byte) (s : State) : Host.Outcome State Fault Refusal :=
  .next ((s.fetch2 0xD0 r).branchIf (!s.psw.z) r)

/-- `BCS rel` (R194): `F F [I I]`. -/
def execBcs (r : Byte) (s : State) : Host.Outcome State Fault Refusal :=
  .next ((s.fetch2 0xB0 r).branchIf (s.psw.c) r)

/-- `BCC rel` (R195): `F F [I I]`. -/
def execBcc (r : Byte) (s : State) : Host.Outcome State Fault Refusal :=
  .next ((s.fetch2 0x90 r).branchIf (!s.psw.c) r)

/-- `BVS rel` (R196): `F F [I I]`. -/
def execBvs (r : Byte) (s : State) : Host.Outcome State Fault Refusal :=
  .next ((s.fetch2 0x70 r).branchIf (s.psw.v) r)

/-- `BVC rel` (R197): `F F [I I]`. -/
def execBvc (r : Byte) (s : State) : Host.Outcome State Fault Refusal :=
  .next ((s.fetch2 0x50 r).branchIf (!s.psw.v) r)

/-- `BMI rel` (R198): `F F [I I]`. -/
def execBmi (r : Byte) (s : State) : Host.Outcome State Fault Refusal :=
  .next ((s.fetch2 0x30 r).branchIf (s.psw.n) r)

/-- `BPL rel` (R199): `F F [I I]`. -/
def execBpl (r : Byte) (s : State) : Host.Outcome State Fault Refusal :=
  .next ((s.fetch2 0x10 r).branchIf (!s.psw.n) r)

/-- `BBS dp.0, rel` (R200): `F F R F I [I I]`. -/
def execBbs0 (o : Byte) (r : Byte) (s : State) : Host.Outcome State Fault Refusal :=
  .next (s.branchOnBit 0x03 o r 0 true)

/-- `BBS dp.1, rel` (R200): `F F R F I [I I]`. -/
def execBbs1 (o : Byte) (r : Byte) (s : State) : Host.Outcome State Fault Refusal :=
  .next (s.branchOnBit 0x23 o r 1 true)

/-- `BBS dp.2, rel` (R200): `F F R F I [I I]`. -/
def execBbs2 (o : Byte) (r : Byte) (s : State) : Host.Outcome State Fault Refusal :=
  .next (s.branchOnBit 0x43 o r 2 true)

/-- `BBS dp.3, rel` (R200): `F F R F I [I I]`. -/
def execBbs3 (o : Byte) (r : Byte) (s : State) : Host.Outcome State Fault Refusal :=
  .next (s.branchOnBit 0x63 o r 3 true)

/-- `BBS dp.4, rel` (R200): `F F R F I [I I]`. -/
def execBbs4 (o : Byte) (r : Byte) (s : State) : Host.Outcome State Fault Refusal :=
  .next (s.branchOnBit 0x83 o r 4 true)

/-- `BBS dp.5, rel` (R200): `F F R F I [I I]`. -/
def execBbs5 (o : Byte) (r : Byte) (s : State) : Host.Outcome State Fault Refusal :=
  .next (s.branchOnBit 0xA3 o r 5 true)

/-- `BBS dp.6, rel` (R200): `F F R F I [I I]`. -/
def execBbs6 (o : Byte) (r : Byte) (s : State) : Host.Outcome State Fault Refusal :=
  .next (s.branchOnBit 0xC3 o r 6 true)

/-- `BBS dp.7, rel` (R200): `F F R F I [I I]`. -/
def execBbs7 (o : Byte) (r : Byte) (s : State) : Host.Outcome State Fault Refusal :=
  .next (s.branchOnBit 0xE3 o r 7 true)

/-- `BBC dp.0, rel` (R201): `F F R F I [I I]`. -/
def execBbc0 (o : Byte) (r : Byte) (s : State) : Host.Outcome State Fault Refusal :=
  .next (s.branchOnBit 0x13 o r 0 false)

/-- `BBC dp.1, rel` (R201): `F F R F I [I I]`. -/
def execBbc1 (o : Byte) (r : Byte) (s : State) : Host.Outcome State Fault Refusal :=
  .next (s.branchOnBit 0x33 o r 1 false)

/-- `BBC dp.2, rel` (R201): `F F R F I [I I]`. -/
def execBbc2 (o : Byte) (r : Byte) (s : State) : Host.Outcome State Fault Refusal :=
  .next (s.branchOnBit 0x53 o r 2 false)

/-- `BBC dp.3, rel` (R201): `F F R F I [I I]`. -/
def execBbc3 (o : Byte) (r : Byte) (s : State) : Host.Outcome State Fault Refusal :=
  .next (s.branchOnBit 0x73 o r 3 false)

/-- `BBC dp.4, rel` (R201): `F F R F I [I I]`. -/
def execBbc4 (o : Byte) (r : Byte) (s : State) : Host.Outcome State Fault Refusal :=
  .next (s.branchOnBit 0x93 o r 4 false)

/-- `BBC dp.5, rel` (R201): `F F R F I [I I]`. -/
def execBbc5 (o : Byte) (r : Byte) (s : State) : Host.Outcome State Fault Refusal :=
  .next (s.branchOnBit 0xB3 o r 5 false)

/-- `BBC dp.6, rel` (R201): `F F R F I [I I]`. -/
def execBbc6 (o : Byte) (r : Byte) (s : State) : Host.Outcome State Fault Refusal :=
  .next (s.branchOnBit 0xD3 o r 6 false)

/-- `BBC dp.7, rel` (R201): `F F R F I [I I]`. -/
def execBbc7 (o : Byte) (r : Byte) (s : State) : Host.Outcome State Fault Refusal :=
  .next (s.branchOnBit 0xF3 o r 7 false)

/-- `CBNE dp, rel` (R202): `F F R F I [I I]`. -/
def execCbneDp (o : Byte) (r : Byte) (s : State) : Host.Outcome State Fault Refusal :=
  let v := s.directPageSource 0x2E o r
  .next (v.after.idle.branchIf (s.a != v.value) r)

/-- `CBNE dp+X, rel` (R203): `F F I R F I [I I]`. -/
def execCbneDpX (o : Byte) (r : Byte) (s : State) : Host.Outcome State Fault Refusal :=
  let v := (s.fetch2 0xDE o).directPageX o
  .next ((v.read.fetchOperand2 r).idle.branchIf (s.a != v.value) r)

/-- `DBNZ dp, rel` (R204): `F F R W F [I I]`. -/
def execDbnzDp (o : Byte) (r : Byte) (s : State) : Host.Outcome State Fault Refusal :=
  let v := (s.fetch2 0x6E o).directPage o
  let count := v.value - 1
  .next (((v.read.write v.addr count).fetchOperand2 r).branchIf (count != 0) r)

/-- `DBNZ Y, rel` (R205): `F F I I [I I]`. -/
def execDbnzY (r : Byte) (s : State) : Host.Outcome State Fault Refusal :=
  let t := s.fetch2 0xFE r
  let count := s.y - 1
  .next (({ t.idle with y := count } : State).idle.branchIf (count != 0) r)

/-- `JMP !abs` (R206): `F F F`. -/
def execJmpAbs (addr : Word) (s : State) : Host.Outcome State Fault Refusal :=
  .next { s.fetchWord 0x5F addr with pc := addr }

/-- `JMP [!abs+X]` (R207): `F F F I R R`. -/
def execJmpAbsXInd (addr : Word) (s : State) : Host.Outcome State Fault Refusal :=
  let t := (s.fetchWord 0x1F addr).idle
  let entry := addr + s.x.setWidth 16
  .next { t.readWord entry with pc := t.wordValue entry }

/-- `CALL !abs` (R208): `F F F I I I W W`. -/
def execCall (addr : Word) (s : State) : Host.Outcome State Fault Refusal :=
  let t := s.fetchWord 0x3F addr
  .next { (t.idles 3).pushWord t.pc with pc := addr }

/-- `PCALL up` (R209): `F F I I W W`. -/
def execPcall (u : Byte) (s : State) : Host.Outcome State Fault Refusal :=
  let t := s.fetch2 0x4F u
  .next { (t.idles 2).pushWord t.pc with pc := wordOf 0xFF u }

/-- `TCALL 0` (R210): `F R R I I I W W`. -/
def execTcall0 (s : State) : Host.Outcome State Fault Refusal :=
  .next ((s.fetchOpcode 0x01).callTable 0)

/-- `TCALL 1` (R210): `F R R I I I W W`. -/
def execTcall1 (s : State) : Host.Outcome State Fault Refusal :=
  .next ((s.fetchOpcode 0x11).callTable 1)

/-- `TCALL 2` (R210): `F R R I I I W W`. -/
def execTcall2 (s : State) : Host.Outcome State Fault Refusal :=
  .next ((s.fetchOpcode 0x21).callTable 2)

/-- `TCALL 3` (R210): `F R R I I I W W`. -/
def execTcall3 (s : State) : Host.Outcome State Fault Refusal :=
  .next ((s.fetchOpcode 0x31).callTable 3)

/-- `TCALL 4` (R210): `F R R I I I W W`. -/
def execTcall4 (s : State) : Host.Outcome State Fault Refusal :=
  .next ((s.fetchOpcode 0x41).callTable 4)

/-- `TCALL 5` (R210): `F R R I I I W W`. -/
def execTcall5 (s : State) : Host.Outcome State Fault Refusal :=
  .next ((s.fetchOpcode 0x51).callTable 5)

/-- `TCALL 6` (R210): `F R R I I I W W`. -/
def execTcall6 (s : State) : Host.Outcome State Fault Refusal :=
  .next ((s.fetchOpcode 0x61).callTable 6)

/-- `TCALL 7` (R210): `F R R I I I W W`. -/
def execTcall7 (s : State) : Host.Outcome State Fault Refusal :=
  .next ((s.fetchOpcode 0x71).callTable 7)

/-- `TCALL 8` (R210): `F R R I I I W W`. -/
def execTcall8 (s : State) : Host.Outcome State Fault Refusal :=
  .next ((s.fetchOpcode 0x81).callTable 8)

/-- `TCALL 9` (R210): `F R R I I I W W`. -/
def execTcall9 (s : State) : Host.Outcome State Fault Refusal :=
  .next ((s.fetchOpcode 0x91).callTable 9)

/-- `TCALL 10` (R210): `F R R I I I W W`. -/
def execTcall10 (s : State) : Host.Outcome State Fault Refusal :=
  .next ((s.fetchOpcode 0xA1).callTable 10)

/-- `TCALL 11` (R210): `F R R I I I W W`. -/
def execTcall11 (s : State) : Host.Outcome State Fault Refusal :=
  .next ((s.fetchOpcode 0xB1).callTable 11)

/-- `TCALL 12` (R210): `F R R I I I W W`. -/
def execTcall12 (s : State) : Host.Outcome State Fault Refusal :=
  .next ((s.fetchOpcode 0xC1).callTable 12)

/-- `TCALL 13` (R210): `F R R I I I W W`. -/
def execTcall13 (s : State) : Host.Outcome State Fault Refusal :=
  .next ((s.fetchOpcode 0xD1).callTable 13)

/-- `TCALL 14` (R210): `F R R I I I W W`. -/
def execTcall14 (s : State) : Host.Outcome State Fault Refusal :=
  .next ((s.fetchOpcode 0xE1).callTable 14)

/-- `TCALL 15` (R210): `F R R I I I W W`. -/
def execTcall15 (s : State) : Host.Outcome State Fault Refusal :=
  .next ((s.fetchOpcode 0xF1).callTable 15)

/-- `BRK` (R211): `F R R I I W W W`. -/
def execBrk (s : State) : Host.Outcome State Fault Refusal :=
  .next ((s.fetchOpcode 0x0F).takeBreak)

/-- `RET` (R212): `F R R I I`. -/
def execRet (s : State) : Host.Outcome State Fault Refusal :=
  let t := s.fetchOpcode 0x6F
  .next { t.popWord.idles 2 with pc := t.popWordValue }

/-- `RETI` (R213): `F R R R I I`. -/
def execReti (s : State) : Host.Outcome State Fault Refusal :=
  .next ((s.fetchOpcode 0x7F).returnFromBreak)

end Sys2Proof.Machine
end

