-- ==== Sys2Proof/Machine/Misc.lean ====
section
/-! DEFINITION. The miscellaneous family (R350 to R374): one opcode byte each, no memory operand but the stack. Each meaning runs one whole instruction from the state with PC at its opcode byte: its
cycles are those of its row of opcode_table.json, in that order. -/

namespace Sys2Proof.Machine

/-- `NOP` (R351): `F I`. -/
def execNop (s : State) : Host.Outcome State Fault Refusal :=
  .next ((s.fetchOpcode 0x00).idle)

/-- `SLEEP` (R352): `F I I`. -/
def execSleep (s : State) : Host.Outcome State Fault Refusal :=
  .next { (s.fetchOpcode 0xEF).idles 2 with halt := true }

/-- `STOP` (R353): `F I I`. -/
def execStop (s : State) : Host.Outcome State Fault Refusal :=
  .next { (s.fetchOpcode 0xFF).idles 2 with halt := true }

/-- `XCN A` (R354): `F I I I I`. -/
def execXcn (s : State) : Host.Outcome State Fault Refusal :=
  .next (((s.fetchOpcode 0x9F).idles 4).loadA (s.a >>> 4 ||| s.a <<< 4))

/-- `DAA A` (R355): `F I I`. -/
def execDaa (s : State) : Host.Outcome State Fault Refusal :=
  let res := aluDaa s.a s.psw
  .next { (s.fetchOpcode 0xDF).idles 2 with a := res.value, psw := res.psw }

/-- `DAS A` (R356): `F I I`. -/
def execDas (s : State) : Host.Outcome State Fault Refusal :=
  let res := aluDas s.a s.psw
  .next { (s.fetchOpcode 0xBE).idles 2 with a := res.value, psw := res.psw }

/-- `CLRC` (R357): `F I`. -/
def execClrc (s : State) : Host.Outcome State Fault Refusal :=
  .next { (s.fetchOpcode 0x60).idle with psw := { s.psw with c := false } }

/-- `SETC` (R358): `F I`. -/
def execSetc (s : State) : Host.Outcome State Fault Refusal :=
  .next { (s.fetchOpcode 0x80).idle with psw := { s.psw with c := true } }

/-- `CLRP` (R359): `F I`. -/
def execClrp (s : State) : Host.Outcome State Fault Refusal :=
  .next { (s.fetchOpcode 0x20).idle with psw := { s.psw with p := false } }

/-- `SETP` (R360): `F I`. -/
def execSetp (s : State) : Host.Outcome State Fault Refusal :=
  .next { (s.fetchOpcode 0x40).idle with psw := { s.psw with p := true } }

/-- `CLRV` (R361): `F I`. -/
def execClrv (s : State) : Host.Outcome State Fault Refusal :=
  .next { (s.fetchOpcode 0xE0).idle with psw := { s.psw with v := false, h := false } }

/-- `NOTC` (R362): `F I I`. -/
def execNotc (s : State) : Host.Outcome State Fault Refusal :=
  .next { (s.fetchOpcode 0xED).idles 2 with psw := { s.psw with c := !s.psw.c } }

/-- `EI` (R363): `F I I`. -/
def execEi (s : State) : Host.Outcome State Fault Refusal :=
  .next { (s.fetchOpcode 0xA0).idles 2 with psw := { s.psw with i := true } }

/-- `DI` (R364): `F I I`. -/
def execDi (s : State) : Host.Outcome State Fault Refusal :=
  .next { (s.fetchOpcode 0xC0).idles 2 with psw := { s.psw with i := false } }

/-- `PUSH A` (R365): `F I I W`. -/
def execPushA (s : State) : Host.Outcome State Fault Refusal :=
  .next ((s.fetchOpcode 0x2D).pushRegister s.a)

/-- `PUSH X` (R366): `F I I W`. -/
def execPushX (s : State) : Host.Outcome State Fault Refusal :=
  .next ((s.fetchOpcode 0x4D).pushRegister s.x)

/-- `PUSH Y` (R367): `F I I W`. -/
def execPushY (s : State) : Host.Outcome State Fault Refusal :=
  .next ((s.fetchOpcode 0x6D).pushRegister s.y)

/-- `PUSH PSW` (R368): `F I I W`. -/
def execPushPsw (s : State) : Host.Outcome State Fault Refusal :=
  .next ((s.fetchOpcode 0x0D).pushRegister s.psw.toByte)

/-- `POP A` (R369): `F I I R`. -/
def execPopA (s : State) : Host.Outcome State Fault Refusal :=
  let t := s.fetchOpcode 0xAE
  .next { t.popRegister with a := t.popRegisterValue }

/-- `POP X` (R370): `F I I R`. -/
def execPopX (s : State) : Host.Outcome State Fault Refusal :=
  let t := s.fetchOpcode 0xCE
  .next { t.popRegister with x := t.popRegisterValue }

/-- `POP Y` (R371): `F I I R`. -/
def execPopY (s : State) : Host.Outcome State Fault Refusal :=
  let t := s.fetchOpcode 0xEE
  .next { t.popRegister with y := t.popRegisterValue }

/-- `POP PSW` (R372): `F I I R`. -/
def execPopPsw (s : State) : Host.Outcome State Fault Refusal :=
  let t := s.fetchOpcode 0x8E
  .next { t.popRegister with psw := Psw.ofByte t.popRegisterValue }

/-- `MUL AX` (R373): `F I I I I I I I I`. -/
def execMulAX (s : State) : Host.Outcome State Fault Refusal :=
  let res := aluMul s.a s.x s.psw
  .next { ((s.fetchOpcode 0xCF).idles 8).setAX res.value with psw := res.psw }

/-- `DIV AX, Y` (R374): `F I I I I I I I I I I I`. -/
def execDivAXY (s : State) : Host.Outcome State Fault Refusal :=
  let res := aluDiv s.ax s.y s.psw
  .next { (s.fetchOpcode 0x9E).idles 11 with x := res.quo, a := res.rem, psw := res.psw }

end Sys2Proof.Machine
end

