-- ==== Sys2Proof/Machine/Move.lean ====
section
/-! DEFINITION. The move family: MOV, MOVW and MOV1 (R140 to R185). A move writes N and Z from a value that goes into A, X or Y, and no
other flag; a store writes none. Each meaning runs one whole instruction from the state with PC at its opcode byte: its
cycles are those of its row of opcode_table.json, in that order. -/

namespace Sys2Proof.Machine

/-- `MOV A, #imm` (R141): `F F`. -/
def execMovAImm (imm : Byte) (s : State) : Host.Outcome State Fault Refusal :=
  .next ((s.fetch2 0xE8 imm).loadA imm)

/-- `MOV X, #imm` (R142): `F F`. -/
def execMovXImm (imm : Byte) (s : State) : Host.Outcome State Fault Refusal :=
  .next ((s.fetch2 0xCD imm).loadX imm)

/-- `MOV Y, #imm` (R143): `F F`. -/
def execMovYImm (imm : Byte) (s : State) : Host.Outcome State Fault Refusal :=
  .next ((s.fetch2 0x8D imm).loadY imm)

/-- `MOV A, (X)` (R144): `F I R`. -/
def execMovAIndX (s : State) : Host.Outcome State Fault Refusal :=
  .next (((s.fetchOpcode 0xE6).indirectX).loadA)

/-- `MOV A, (X)+` (R145): `F I R I`. -/
def execMovAIndXInc (s : State) : Host.Outcome State Fault Refusal :=
  let m := (s.fetchOpcode 0xBF).indirectX
  .next { m.read.idle with a := m.value, x := s.x + 1, psw := s.psw.setNZ8 m.value }

/-- `MOV A, dp` (R146): `F F R`. -/
def execMovADp (o : Byte) (s : State) : Host.Outcome State Fault Refusal :=
  .next (((s.fetch2 0xE4 o).directPage o).loadA)

/-- `MOV X, dp` (R147): `F F R`. -/
def execMovXDp (o : Byte) (s : State) : Host.Outcome State Fault Refusal :=
  .next (((s.fetch2 0xF8 o).directPage o).loadX)

/-- `MOV Y, dp` (R148): `F F R`. -/
def execMovYDp (o : Byte) (s : State) : Host.Outcome State Fault Refusal :=
  .next (((s.fetch2 0xEB o).directPage o).loadY)

/-- `MOV A, dp+X` (R149): `F F I R`. -/
def execMovADpX (o : Byte) (s : State) : Host.Outcome State Fault Refusal :=
  .next (((s.fetch2 0xF4 o).directPageX o).loadA)

/-- `MOV X, dp+Y` (R150): `F F I R`. -/
def execMovXDpY (o : Byte) (s : State) : Host.Outcome State Fault Refusal :=
  .next (((s.fetch2 0xF9 o).directPageY o).loadX)

/-- `MOV Y, dp+X` (R151): `F F I R`. -/
def execMovYDpX (o : Byte) (s : State) : Host.Outcome State Fault Refusal :=
  .next (((s.fetch2 0xFB o).directPageX o).loadY)

/-- `MOV A, !abs` (R152): `F F F R`. -/
def execMovAAbs (addr : Word) (s : State) : Host.Outcome State Fault Refusal :=
  .next (((s.fetchWord 0xE5 addr).absolute addr).loadA)

/-- `MOV X, !abs` (R153): `F F F R`. -/
def execMovXAbs (addr : Word) (s : State) : Host.Outcome State Fault Refusal :=
  .next (((s.fetchWord 0xE9 addr).absolute addr).loadX)

/-- `MOV Y, !abs` (R154): `F F F R`. -/
def execMovYAbs (addr : Word) (s : State) : Host.Outcome State Fault Refusal :=
  .next (((s.fetchWord 0xEC addr).absolute addr).loadY)

/-- `MOV A, !abs+X` (R155): `F F F I R`. -/
def execMovAAbsX (addr : Word) (s : State) : Host.Outcome State Fault Refusal :=
  .next (((s.fetchWord 0xF5 addr).absoluteX addr).loadA)

/-- `MOV A, !abs+Y` (R156): `F F F I R`. -/
def execMovAAbsY (addr : Word) (s : State) : Host.Outcome State Fault Refusal :=
  .next (((s.fetchWord 0xF6 addr).absoluteY addr).loadA)

/-- `MOV A, [dp+X]` (R157): `F F I R R R`. -/
def execMovAIdxInd (o : Byte) (s : State) : Host.Outcome State Fault Refusal :=
  .next (((s.fetch2 0xE7 o).indexedIndirect o).loadA)

/-- `MOV A, [dp]+Y` (R158): `F F I R R R`. -/
def execMovAIndIdx (o : Byte) (s : State) : Host.Outcome State Fault Refusal :=
  .next (((s.fetch2 0xF7 o).indirectIndexed o).loadA)

/-- `MOV (X), A` (R159): `F I D W`. -/
def execMovIndXA (s : State) : Host.Outcome State Fault Refusal :=
  .next (((s.fetchOpcode 0xC6).indirectX).store s.a)

/-- `MOV (X)+, A` (R160): `F I I W`. -/
def execMovIndXIncA (s : State) : Host.Outcome State Fault Refusal :=
  let t := (s.fetchOpcode 0xAF).idles 2
  .next { t.write (t.dp t.x) t.a with x := t.x + 1 }

/-- `MOV dp, A` (R161): `F F D W`. -/
def execMovDpA (o : Byte) (s : State) : Host.Outcome State Fault Refusal :=
  .next (((s.fetch2 0xC4 o).directPage o).store s.a)

/-- `MOV dp, X` (R162): `F F D W`. -/
def execMovDpX (o : Byte) (s : State) : Host.Outcome State Fault Refusal :=
  .next (((s.fetch2 0xD8 o).directPage o).store s.x)

/-- `MOV dp, Y` (R163): `F F D W`. -/
def execMovDpY (o : Byte) (s : State) : Host.Outcome State Fault Refusal :=
  .next (((s.fetch2 0xCB o).directPage o).store s.y)

/-- `MOV dp+X, A` (R164): `F F I D W`. -/
def execMovDpXA (o : Byte) (s : State) : Host.Outcome State Fault Refusal :=
  .next (((s.fetch2 0xD4 o).directPageX o).store s.a)

/-- `MOV dp+Y, X` (R165): `F F I D W`. -/
def execMovDpYX (o : Byte) (s : State) : Host.Outcome State Fault Refusal :=
  .next (((s.fetch2 0xD9 o).directPageY o).store s.x)

/-- `MOV dp+X, Y` (R166): `F F I D W`. -/
def execMovDpXY (o : Byte) (s : State) : Host.Outcome State Fault Refusal :=
  .next (((s.fetch2 0xDB o).directPageX o).store s.y)

/-- `MOV !abs, A` (R167): `F F F D W`. -/
def execMovAbsA (addr : Word) (s : State) : Host.Outcome State Fault Refusal :=
  .next (((s.fetchWord 0xC5 addr).absolute addr).store s.a)

/-- `MOV !abs, X` (R168): `F F F D W`. -/
def execMovAbsX (addr : Word) (s : State) : Host.Outcome State Fault Refusal :=
  .next (((s.fetchWord 0xC9 addr).absolute addr).store s.x)

/-- `MOV !abs, Y` (R169): `F F F D W`. -/
def execMovAbsY (addr : Word) (s : State) : Host.Outcome State Fault Refusal :=
  .next (((s.fetchWord 0xCC addr).absolute addr).store s.y)

/-- `MOV !abs+X, A` (R170): `F F F I D W`. -/
def execMovAbsXA (addr : Word) (s : State) : Host.Outcome State Fault Refusal :=
  .next (((s.fetchWord 0xD5 addr).absoluteX addr).store s.a)

/-- `MOV !abs+Y, A` (R171): `F F F I D W`. -/
def execMovAbsYA (addr : Word) (s : State) : Host.Outcome State Fault Refusal :=
  .next (((s.fetchWord 0xD6 addr).absoluteY addr).store s.a)

/-- `MOV [dp+X], A` (R172): `F F I R R D W`. -/
def execMovIdxIndA (o : Byte) (s : State) : Host.Outcome State Fault Refusal :=
  .next (((s.fetch2 0xC7 o).indexedIndirect o).store s.a)

/-- `MOV [dp]+Y, A` (R173): `F F R R I D W`. -/
def execMovIndIdxA (o : Byte) (s : State) : Host.Outcome State Fault Refusal :=
  .next (((s.fetch2 0xD7 o).indirectIndexedStore o).store s.a)

/-- `MOV A, X` (R174): `F I`. -/
def execMovAX (s : State) : Host.Outcome State Fault Refusal :=
  .next (((s.fetchOpcode 0x7D).idle).loadA s.x)

/-- `MOV A, Y` (R175): `F I`. -/
def execMovAY (s : State) : Host.Outcome State Fault Refusal :=
  .next (((s.fetchOpcode 0xDD).idle).loadA s.y)

/-- `MOV X, A` (R176): `F I`. -/
def execMovXA (s : State) : Host.Outcome State Fault Refusal :=
  .next (((s.fetchOpcode 0x5D).idle).loadX s.a)

/-- `MOV Y, A` (R177): `F I`. -/
def execMovYA (s : State) : Host.Outcome State Fault Refusal :=
  .next (((s.fetchOpcode 0xFD).idle).loadY s.a)

/-- `MOV X, SP` (R178): `F I`. -/
def execMovXSP (s : State) : Host.Outcome State Fault Refusal :=
  .next (((s.fetchOpcode 0x9D).idle).loadX s.sp)

/-- `MOV SP, X` (R179): `F I`. -/
def execMovSPX (s : State) : Host.Outcome State Fault Refusal :=
  let t := (s.fetchOpcode 0xBD).idle
  .next { t with sp := t.x }

/-- `MOV dd, ds` (R180): `F F R F W`. -/
def execMovDpDp (dst : Byte) (src : Byte) (s : State) : Host.Outcome State Fault Refusal :=
  let src := s.directPageSource 0xFA src dst
  .next (src.after.write (src.after.dp dst) src.value)

/-- `MOV dp, #imm` (R181): `F F F D W`. -/
def execMovDpImm (dst : Byte) (imm : Byte) (s : State) : Host.Outcome State Fault Refusal :=
  .next (((s.fetch3 0x8F imm dst).directPage dst).store imm)

/-- `MOVW AX, dp` (R182): `F F R I R`. -/
def execMovwAXDp (o : Byte) (s : State) : Host.Outcome State Fault Refusal :=
  let t := s.fetch2 0xBA o
  let w := t.spacedWordValue o
  .next { (t.readSpacedWord o).setAX w with psw := s.psw.setNZ16 w }

/-- `MOVW dp, AX` (R183): `F F D W W`. -/
def execMovwDpAX (o : Byte) (s : State) : Host.Outcome State Fault Refusal :=
  let t := s.fetch2 0xDA o
  .next (((t.discardRead (t.dp o)).write (t.dp o) t.x).write (t.dp (o + 1)) t.a)

/-- `MOV1 C, m.b` (R184): `F F F R`. -/
def execMov1CBit (m : Word) (b : BitVec 3) (s : State) : Host.Outcome State Fault Refusal :=
  let v := (s.fetchBit 0xAA m b).absoluteBit m
  .next { v.read with psw := { s.psw with c := bitOf v.value b } }

/-- `MOV1 m.b, C` (R185): `F F F R I W`. -/
def execMov1BitC (m : Word) (b : BitVec 3) (s : State) : Host.Outcome State Fault Refusal :=
  let v := (s.fetchBit 0xCA m b).absoluteBit m
  .next (v.read.idle.write v.addr (setBit v.value b s.psw.c))

end Sys2Proof.Machine
end

