-- ==== Sys2Proof/Machine/ReadModifyWrite.lean ====
section
/-! DEFINITION. The read-modify-write family (R290 to R343): a read and a write of one address as two bus accesses, the register
forms of the same primitives, and the compare forms with a memory destination. Each meaning runs one whole instruction from the state with PC at its opcode byte: its
cycles are those of its row of opcode_table.json, in that order. -/

namespace Sys2Proof.Machine

/-- The 16-bit step of a direct-page word (R319, R320): the low byte is read, changed and written before the high byte is
read; `delta` is 1 or -1. -/
def State.bumpWord (s : State) (o : Byte) (delta : Word) : State :=
  let low := wordOf 0x00 (s.bus (s.dp o)) + delta
  let t := (s.read (s.dp o)).write (s.dp o) (wordLow low)
  let w := low + wordOf (t.bus (s.dp (o + 1))) 0x00
  { (t.read (s.dp (o + 1))).write (s.dp (o + 1)) (wordHigh w) with psw := s.psw.setNZ16 w }

/-- `ASL A` (R291): `F I`. -/
def execAslA (s : State) : Host.Outcome State Fault Refusal :=
  .next ((s.fetchOpcode 0x1C).modifyA aluAsl)

/-- `ASL dp` (R292): `F F R W`. -/
def execAslDp (o : Byte) (s : State) : Host.Outcome State Fault Refusal :=
  .next (((s.fetch2 0x0B o).directPage o).modify aluAsl)

/-- `ASL dp+X` (R293): `F F I R W`. -/
def execAslDpX (o : Byte) (s : State) : Host.Outcome State Fault Refusal :=
  .next (((s.fetch2 0x1B o).directPageX o).modify aluAsl)

/-- `ASL !abs` (R294): `F F F R W`. -/
def execAslAbs (addr : Word) (s : State) : Host.Outcome State Fault Refusal :=
  .next (((s.fetchWord 0x0C addr).absolute addr).modify aluAsl)

/-- `ROL A` (R295): `F I`. -/
def execRolA (s : State) : Host.Outcome State Fault Refusal :=
  .next ((s.fetchOpcode 0x3C).modifyA aluRol)

/-- `ROL dp` (R296): `F F R W`. -/
def execRolDp (o : Byte) (s : State) : Host.Outcome State Fault Refusal :=
  .next (((s.fetch2 0x2B o).directPage o).modify aluRol)

/-- `ROL dp+X` (R297): `F F I R W`. -/
def execRolDpX (o : Byte) (s : State) : Host.Outcome State Fault Refusal :=
  .next (((s.fetch2 0x3B o).directPageX o).modify aluRol)

/-- `ROL !abs` (R298): `F F F R W`. -/
def execRolAbs (addr : Word) (s : State) : Host.Outcome State Fault Refusal :=
  .next (((s.fetchWord 0x2C addr).absolute addr).modify aluRol)

/-- `LSR A` (R299): `F I`. -/
def execLsrA (s : State) : Host.Outcome State Fault Refusal :=
  .next ((s.fetchOpcode 0x5C).modifyA aluLsr)

/-- `LSR dp` (R300): `F F R W`. -/
def execLsrDp (o : Byte) (s : State) : Host.Outcome State Fault Refusal :=
  .next (((s.fetch2 0x4B o).directPage o).modify aluLsr)

/-- `LSR dp+X` (R301): `F F I R W`. -/
def execLsrDpX (o : Byte) (s : State) : Host.Outcome State Fault Refusal :=
  .next (((s.fetch2 0x5B o).directPageX o).modify aluLsr)

/-- `LSR !abs` (R302): `F F F R W`. -/
def execLsrAbs (addr : Word) (s : State) : Host.Outcome State Fault Refusal :=
  .next (((s.fetchWord 0x4C addr).absolute addr).modify aluLsr)

/-- `ROR A` (R303): `F I`. -/
def execRorA (s : State) : Host.Outcome State Fault Refusal :=
  .next ((s.fetchOpcode 0x7C).modifyA aluRor)

/-- `ROR dp` (R304): `F F R W`. -/
def execRorDp (o : Byte) (s : State) : Host.Outcome State Fault Refusal :=
  .next (((s.fetch2 0x6B o).directPage o).modify aluRor)

/-- `ROR dp+X` (R305): `F F I R W`. -/
def execRorDpX (o : Byte) (s : State) : Host.Outcome State Fault Refusal :=
  .next (((s.fetch2 0x7B o).directPageX o).modify aluRor)

/-- `ROR !abs` (R306): `F F F R W`. -/
def execRorAbs (addr : Word) (s : State) : Host.Outcome State Fault Refusal :=
  .next (((s.fetchWord 0x6C addr).absolute addr).modify aluRor)

/-- `DEC A` (R307): `F I`. -/
def execDecA (s : State) : Host.Outcome State Fault Refusal :=
  .next ((s.fetchOpcode 0x9C).modifyA aluDec)

/-- `DEC dp` (R308): `F F R W`. -/
def execDecDp (o : Byte) (s : State) : Host.Outcome State Fault Refusal :=
  .next (((s.fetch2 0x8B o).directPage o).modify aluDec)

/-- `DEC dp+X` (R309): `F F I R W`. -/
def execDecDpX (o : Byte) (s : State) : Host.Outcome State Fault Refusal :=
  .next (((s.fetch2 0x9B o).directPageX o).modify aluDec)

/-- `DEC !abs` (R310): `F F F R W`. -/
def execDecAbs (addr : Word) (s : State) : Host.Outcome State Fault Refusal :=
  .next (((s.fetchWord 0x8C addr).absolute addr).modify aluDec)

/-- `INC A` (R311): `F I`. -/
def execIncA (s : State) : Host.Outcome State Fault Refusal :=
  .next ((s.fetchOpcode 0xBC).modifyA aluInc)

/-- `INC dp` (R312): `F F R W`. -/
def execIncDp (o : Byte) (s : State) : Host.Outcome State Fault Refusal :=
  .next (((s.fetch2 0xAB o).directPage o).modify aluInc)

/-- `INC dp+X` (R313): `F F I R W`. -/
def execIncDpX (o : Byte) (s : State) : Host.Outcome State Fault Refusal :=
  .next (((s.fetch2 0xBB o).directPageX o).modify aluInc)

/-- `INC !abs` (R314): `F F F R W`. -/
def execIncAbs (addr : Word) (s : State) : Host.Outcome State Fault Refusal :=
  .next (((s.fetchWord 0xAC addr).absolute addr).modify aluInc)

/-- `INC X` (R315): `F I`. -/
def execIncX (s : State) : Host.Outcome State Fault Refusal :=
  .next ((s.fetchOpcode 0x3D).modifyX aluInc)

/-- `DEC X` (R316): `F I`. -/
def execDecX (s : State) : Host.Outcome State Fault Refusal :=
  .next ((s.fetchOpcode 0x1D).modifyX aluDec)

/-- `INC Y` (R317): `F I`. -/
def execIncY (s : State) : Host.Outcome State Fault Refusal :=
  .next ((s.fetchOpcode 0xFC).modifyY aluInc)

/-- `DEC Y` (R318): `F I`. -/
def execDecY (s : State) : Host.Outcome State Fault Refusal :=
  .next ((s.fetchOpcode 0xDC).modifyY aluDec)

/-- `INCW dp` (R319): `F F R W R W`. -/
def execIncwDp (o : Byte) (s : State) : Host.Outcome State Fault Refusal :=
  .next ((s.fetch2 0x3A o).bumpWord o 1)

/-- `DECW dp` (R320): `F F R W R W`. -/
def execDecwDp (o : Byte) (s : State) : Host.Outcome State Fault Refusal :=
  .next ((s.fetch2 0x1A o).bumpWord o (-1))

/-- `TSET1 !abs` (R321): `F F F R D W`. -/
def execTset1Abs (addr : Word) (s : State) : Host.Outcome State Fault Refusal :=
  let v := (s.fetchWord 0x0E addr).absolute addr
  .next { (v.read.discardRead v.addr).write v.addr (v.value ||| s.a) with psw := s.psw.setNZ8 (s.a - v.value) }

/-- `TCLR1 !abs` (R322): `F F F R D W`. -/
def execTclr1Abs (addr : Word) (s : State) : Host.Outcome State Fault Refusal :=
  let v := (s.fetchWord 0x4E addr).absolute addr
  .next { (v.read.discardRead v.addr).write v.addr (v.value &&& (s.a ^^^ 0xFF)) with psw := s.psw.setNZ8 (s.a - v.value) }

/-- `SET1 dp.0` (R323): `F F R W`. -/
def execSet1b0 (o : Byte) (s : State) : Host.Outcome State Fault Refusal :=
  .next (s.setBitAt 0x02 o 0)

/-- `SET1 dp.1` (R323): `F F R W`. -/
def execSet1b1 (o : Byte) (s : State) : Host.Outcome State Fault Refusal :=
  .next (s.setBitAt 0x22 o 1)

/-- `SET1 dp.2` (R323): `F F R W`. -/
def execSet1b2 (o : Byte) (s : State) : Host.Outcome State Fault Refusal :=
  .next (s.setBitAt 0x42 o 2)

/-- `SET1 dp.3` (R323): `F F R W`. -/
def execSet1b3 (o : Byte) (s : State) : Host.Outcome State Fault Refusal :=
  .next (s.setBitAt 0x62 o 3)

/-- `SET1 dp.4` (R323): `F F R W`. -/
def execSet1b4 (o : Byte) (s : State) : Host.Outcome State Fault Refusal :=
  .next (s.setBitAt 0x82 o 4)

/-- `SET1 dp.5` (R323): `F F R W`. -/
def execSet1b5 (o : Byte) (s : State) : Host.Outcome State Fault Refusal :=
  .next (s.setBitAt 0xA2 o 5)

/-- `SET1 dp.6` (R323): `F F R W`. -/
def execSet1b6 (o : Byte) (s : State) : Host.Outcome State Fault Refusal :=
  .next (s.setBitAt 0xC2 o 6)

/-- `SET1 dp.7` (R323): `F F R W`. -/
def execSet1b7 (o : Byte) (s : State) : Host.Outcome State Fault Refusal :=
  .next (s.setBitAt 0xE2 o 7)

/-- `CLR1 dp.0` (R324): `F F R W`. -/
def execClr1b0 (o : Byte) (s : State) : Host.Outcome State Fault Refusal :=
  .next (s.clearBitAt 0x12 o 0)

/-- `CLR1 dp.1` (R324): `F F R W`. -/
def execClr1b1 (o : Byte) (s : State) : Host.Outcome State Fault Refusal :=
  .next (s.clearBitAt 0x32 o 1)

/-- `CLR1 dp.2` (R324): `F F R W`. -/
def execClr1b2 (o : Byte) (s : State) : Host.Outcome State Fault Refusal :=
  .next (s.clearBitAt 0x52 o 2)

/-- `CLR1 dp.3` (R324): `F F R W`. -/
def execClr1b3 (o : Byte) (s : State) : Host.Outcome State Fault Refusal :=
  .next (s.clearBitAt 0x72 o 3)

/-- `CLR1 dp.4` (R324): `F F R W`. -/
def execClr1b4 (o : Byte) (s : State) : Host.Outcome State Fault Refusal :=
  .next (s.clearBitAt 0x92 o 4)

/-- `CLR1 dp.5` (R324): `F F R W`. -/
def execClr1b5 (o : Byte) (s : State) : Host.Outcome State Fault Refusal :=
  .next (s.clearBitAt 0xB2 o 5)

/-- `CLR1 dp.6` (R324): `F F R W`. -/
def execClr1b6 (o : Byte) (s : State) : Host.Outcome State Fault Refusal :=
  .next (s.clearBitAt 0xD2 o 6)

/-- `CLR1 dp.7` (R324): `F F R W`. -/
def execClr1b7 (o : Byte) (s : State) : Host.Outcome State Fault Refusal :=
  .next (s.clearBitAt 0xF2 o 7)

/-- `NOT1 m.b` (R325): `F F F R W`. -/
def execNot1Bit (m : Word) (b : BitVec 3) (s : State) : Host.Outcome State Fault Refusal :=
  .next (((s.fetchBit 0xEA m b).absoluteBit m).rewrite (fun v => v ^^^ bitMask b))

/-- `OR dd, ds` (R326): `F F R F R W`. -/
def execOrDpDp (dst : Byte) (src : Byte) (s : State) : Host.Outcome State Fault Refusal :=
  .next ((s.directPageSource 0x09 src dst).combineAt aluOr (s.dp dst))

/-- `OR dp, #imm` (R327): `F F F R W`. -/
def execOrDpImm (dst : Byte) (imm : Byte) (s : State) : Host.Outcome State Fault Refusal :=
  .next ((s.immediateSource 0x18 imm dst).combineAt aluOr (s.dp dst))

/-- `OR (X), (Y)` (R328): `F I R R W`. -/
def execOrIndXIndY (s : State) : Host.Outcome State Fault Refusal :=
  .next (((s.fetchOpcode 0x19).indirectYSource).combineAt aluOr (s.dp s.x))

/-- `AND dd, ds` (R329): `F F R F R W`. -/
def execAndDpDp (dst : Byte) (src : Byte) (s : State) : Host.Outcome State Fault Refusal :=
  .next ((s.directPageSource 0x29 src dst).combineAt aluAnd (s.dp dst))

/-- `AND dp, #imm` (R330): `F F F R W`. -/
def execAndDpImm (dst : Byte) (imm : Byte) (s : State) : Host.Outcome State Fault Refusal :=
  .next ((s.immediateSource 0x38 imm dst).combineAt aluAnd (s.dp dst))

/-- `AND (X), (Y)` (R331): `F I R R W`. -/
def execAndIndXIndY (s : State) : Host.Outcome State Fault Refusal :=
  .next (((s.fetchOpcode 0x39).indirectYSource).combineAt aluAnd (s.dp s.x))

/-- `EOR dd, ds` (R332): `F F R F R W`. -/
def execEorDpDp (dst : Byte) (src : Byte) (s : State) : Host.Outcome State Fault Refusal :=
  .next ((s.directPageSource 0x49 src dst).combineAt aluEor (s.dp dst))

/-- `EOR dp, #imm` (R333): `F F F R W`. -/
def execEorDpImm (dst : Byte) (imm : Byte) (s : State) : Host.Outcome State Fault Refusal :=
  .next ((s.immediateSource 0x58 imm dst).combineAt aluEor (s.dp dst))

/-- `EOR (X), (Y)` (R334): `F I R R W`. -/
def execEorIndXIndY (s : State) : Host.Outcome State Fault Refusal :=
  .next (((s.fetchOpcode 0x59).indirectYSource).combineAt aluEor (s.dp s.x))

/-- `CMP dd, ds` (R335): `F F R F R I`. -/
def execCmpDpDp (dst : Byte) (src : Byte) (s : State) : Host.Outcome State Fault Refusal :=
  .next ((s.directPageSource 0x69 src dst).compareAt (s.dp dst))

/-- `CMP dp, #imm` (R336): `F F F R I`. -/
def execCmpDpImm (dst : Byte) (imm : Byte) (s : State) : Host.Outcome State Fault Refusal :=
  .next ((s.immediateSource 0x78 imm dst).compareAt (s.dp dst))

/-- `CMP (X), (Y)` (R337): `F I R R I`. -/
def execCmpIndXIndY (s : State) : Host.Outcome State Fault Refusal :=
  .next (((s.fetchOpcode 0x79).indirectYSource).compareAt (s.dp s.x))

/-- `ADC dd, ds` (R338): `F F R F R W`. -/
def execAdcDpDp (dst : Byte) (src : Byte) (s : State) : Host.Outcome State Fault Refusal :=
  .next ((s.directPageSource 0x89 src dst).combineAt aluAdc (s.dp dst))

/-- `ADC dp, #imm` (R339): `F F F R W`. -/
def execAdcDpImm (dst : Byte) (imm : Byte) (s : State) : Host.Outcome State Fault Refusal :=
  .next ((s.immediateSource 0x98 imm dst).combineAt aluAdc (s.dp dst))

/-- `ADC (X), (Y)` (R340): `F I R R W`. -/
def execAdcIndXIndY (s : State) : Host.Outcome State Fault Refusal :=
  .next (((s.fetchOpcode 0x99).indirectYSource).combineAt aluAdc (s.dp s.x))

/-- `SBC dd, ds` (R341): `F F R F R W`. -/
def execSbcDpDp (dst : Byte) (src : Byte) (s : State) : Host.Outcome State Fault Refusal :=
  .next ((s.directPageSource 0xA9 src dst).combineAt aluSbc (s.dp dst))

/-- `SBC dp, #imm` (R342): `F F F R W`. -/
def execSbcDpImm (dst : Byte) (imm : Byte) (s : State) : Host.Outcome State Fault Refusal :=
  .next ((s.immediateSource 0xB8 imm dst).combineAt aluSbc (s.dp dst))

/-- `SBC (X), (Y)` (R343): `F I R R W`. -/
def execSbcIndXIndY (s : State) : Host.Outcome State Fault Refusal :=
  .next (((s.fetchOpcode 0xB9).indirectYSource).combineAt aluSbc (s.dp s.x))

end Sys2Proof.Machine
end

