-- ==== Sys2Proof/Machine/ReadOperate.lean ====
section
/-! DEFINITION. The read-operate family (R220 to R288): a primitive over a register and a memory byte or word, the result in the
register; no instruction here writes memory. Each meaning runs one whole instruction from the state with PC at its opcode byte: its
cycles are those of its row of opcode_table.json, in that order. -/

namespace Sys2Proof.Machine

/-- `OR A, #imm` (R221): `F F`. -/
def execOrAImm (imm : Byte) (s : State) : Host.Outcome State Fault Refusal :=
  .next ((s.fetch2 0x08 imm).combineA aluOr imm)

/-- `OR A, (X)` (R222): `F I R`. -/
def execOrAIndX (s : State) : Host.Outcome State Fault Refusal :=
  .next (((s.fetchOpcode 0x06).indirectX).combineA aluOr)

/-- `OR A, dp` (R223): `F F R`. -/
def execOrADp (o : Byte) (s : State) : Host.Outcome State Fault Refusal :=
  .next (((s.fetch2 0x04 o).directPage o).combineA aluOr)

/-- `OR A, dp+X` (R224): `F F I R`. -/
def execOrADpX (o : Byte) (s : State) : Host.Outcome State Fault Refusal :=
  .next (((s.fetch2 0x14 o).directPageX o).combineA aluOr)

/-- `OR A, !abs` (R225): `F F F R`. -/
def execOrAAbs (addr : Word) (s : State) : Host.Outcome State Fault Refusal :=
  .next (((s.fetchWord 0x05 addr).absolute addr).combineA aluOr)

/-- `OR A, !abs+X` (R226): `F F F I R`. -/
def execOrAAbsX (addr : Word) (s : State) : Host.Outcome State Fault Refusal :=
  .next (((s.fetchWord 0x15 addr).absoluteX addr).combineA aluOr)

/-- `OR A, !abs+Y` (R227): `F F F I R`. -/
def execOrAAbsY (addr : Word) (s : State) : Host.Outcome State Fault Refusal :=
  .next (((s.fetchWord 0x16 addr).absoluteY addr).combineA aluOr)

/-- `OR A, [dp+X]` (R228): `F F I R R R`. -/
def execOrAIdxInd (o : Byte) (s : State) : Host.Outcome State Fault Refusal :=
  .next (((s.fetch2 0x07 o).indexedIndirect o).combineA aluOr)

/-- `OR A, [dp]+Y` (R229): `F F I R R R`. -/
def execOrAIndIdx (o : Byte) (s : State) : Host.Outcome State Fault Refusal :=
  .next (((s.fetch2 0x17 o).indirectIndexed o).combineA aluOr)

/-- `AND A, #imm` (R230): `F F`. -/
def execAndAImm (imm : Byte) (s : State) : Host.Outcome State Fault Refusal :=
  .next ((s.fetch2 0x28 imm).combineA aluAnd imm)

/-- `AND A, (X)` (R231): `F I R`. -/
def execAndAIndX (s : State) : Host.Outcome State Fault Refusal :=
  .next (((s.fetchOpcode 0x26).indirectX).combineA aluAnd)

/-- `AND A, dp` (R232): `F F R`. -/
def execAndADp (o : Byte) (s : State) : Host.Outcome State Fault Refusal :=
  .next (((s.fetch2 0x24 o).directPage o).combineA aluAnd)

/-- `AND A, dp+X` (R233): `F F I R`. -/
def execAndADpX (o : Byte) (s : State) : Host.Outcome State Fault Refusal :=
  .next (((s.fetch2 0x34 o).directPageX o).combineA aluAnd)

/-- `AND A, !abs` (R234): `F F F R`. -/
def execAndAAbs (addr : Word) (s : State) : Host.Outcome State Fault Refusal :=
  .next (((s.fetchWord 0x25 addr).absolute addr).combineA aluAnd)

/-- `AND A, !abs+X` (R235): `F F F I R`. -/
def execAndAAbsX (addr : Word) (s : State) : Host.Outcome State Fault Refusal :=
  .next (((s.fetchWord 0x35 addr).absoluteX addr).combineA aluAnd)

/-- `AND A, !abs+Y` (R236): `F F F I R`. -/
def execAndAAbsY (addr : Word) (s : State) : Host.Outcome State Fault Refusal :=
  .next (((s.fetchWord 0x36 addr).absoluteY addr).combineA aluAnd)

/-- `AND A, [dp+X]` (R237): `F F I R R R`. -/
def execAndAIdxInd (o : Byte) (s : State) : Host.Outcome State Fault Refusal :=
  .next (((s.fetch2 0x27 o).indexedIndirect o).combineA aluAnd)

/-- `AND A, [dp]+Y` (R238): `F F I R R R`. -/
def execAndAIndIdx (o : Byte) (s : State) : Host.Outcome State Fault Refusal :=
  .next (((s.fetch2 0x37 o).indirectIndexed o).combineA aluAnd)

/-- `EOR A, #imm` (R239): `F F`. -/
def execEorAImm (imm : Byte) (s : State) : Host.Outcome State Fault Refusal :=
  .next ((s.fetch2 0x48 imm).combineA aluEor imm)

/-- `EOR A, (X)` (R240): `F I R`. -/
def execEorAIndX (s : State) : Host.Outcome State Fault Refusal :=
  .next (((s.fetchOpcode 0x46).indirectX).combineA aluEor)

/-- `EOR A, dp` (R241): `F F R`. -/
def execEorADp (o : Byte) (s : State) : Host.Outcome State Fault Refusal :=
  .next (((s.fetch2 0x44 o).directPage o).combineA aluEor)

/-- `EOR A, dp+X` (R242): `F F I R`. -/
def execEorADpX (o : Byte) (s : State) : Host.Outcome State Fault Refusal :=
  .next (((s.fetch2 0x54 o).directPageX o).combineA aluEor)

/-- `EOR A, !abs` (R243): `F F F R`. -/
def execEorAAbs (addr : Word) (s : State) : Host.Outcome State Fault Refusal :=
  .next (((s.fetchWord 0x45 addr).absolute addr).combineA aluEor)

/-- `EOR A, !abs+X` (R244): `F F F I R`. -/
def execEorAAbsX (addr : Word) (s : State) : Host.Outcome State Fault Refusal :=
  .next (((s.fetchWord 0x55 addr).absoluteX addr).combineA aluEor)

/-- `EOR A, !abs+Y` (R245): `F F F I R`. -/
def execEorAAbsY (addr : Word) (s : State) : Host.Outcome State Fault Refusal :=
  .next (((s.fetchWord 0x56 addr).absoluteY addr).combineA aluEor)

/-- `EOR A, [dp+X]` (R246): `F F I R R R`. -/
def execEorAIdxInd (o : Byte) (s : State) : Host.Outcome State Fault Refusal :=
  .next (((s.fetch2 0x47 o).indexedIndirect o).combineA aluEor)

/-- `EOR A, [dp]+Y` (R247): `F F I R R R`. -/
def execEorAIndIdx (o : Byte) (s : State) : Host.Outcome State Fault Refusal :=
  .next (((s.fetch2 0x57 o).indirectIndexed o).combineA aluEor)

/-- `CMP A, #imm` (R248): `F F`. -/
def execCmpAImm (imm : Byte) (s : State) : Host.Outcome State Fault Refusal :=
  .next ((s.fetch2 0x68 imm).compare s.a imm)

/-- `CMP A, (X)` (R249): `F I R`. -/
def execCmpAIndX (s : State) : Host.Outcome State Fault Refusal :=
  .next (((s.fetchOpcode 0x66).indirectX).compare s.a)

/-- `CMP A, dp` (R250): `F F R`. -/
def execCmpADp (o : Byte) (s : State) : Host.Outcome State Fault Refusal :=
  .next (((s.fetch2 0x64 o).directPage o).compare s.a)

/-- `CMP A, dp+X` (R251): `F F I R`. -/
def execCmpADpX (o : Byte) (s : State) : Host.Outcome State Fault Refusal :=
  .next (((s.fetch2 0x74 o).directPageX o).compare s.a)

/-- `CMP A, !abs` (R252): `F F F R`. -/
def execCmpAAbs (addr : Word) (s : State) : Host.Outcome State Fault Refusal :=
  .next (((s.fetchWord 0x65 addr).absolute addr).compare s.a)

/-- `CMP A, !abs+X` (R253): `F F F I R`. -/
def execCmpAAbsX (addr : Word) (s : State) : Host.Outcome State Fault Refusal :=
  .next (((s.fetchWord 0x75 addr).absoluteX addr).compare s.a)

/-- `CMP A, !abs+Y` (R254): `F F F I R`. -/
def execCmpAAbsY (addr : Word) (s : State) : Host.Outcome State Fault Refusal :=
  .next (((s.fetchWord 0x76 addr).absoluteY addr).compare s.a)

/-- `CMP A, [dp+X]` (R255): `F F I R R R`. -/
def execCmpAIdxInd (o : Byte) (s : State) : Host.Outcome State Fault Refusal :=
  .next (((s.fetch2 0x67 o).indexedIndirect o).compare s.a)

/-- `CMP A, [dp]+Y` (R256): `F F I R R R`. -/
def execCmpAIndIdx (o : Byte) (s : State) : Host.Outcome State Fault Refusal :=
  .next (((s.fetch2 0x77 o).indirectIndexed o).compare s.a)

/-- `ADC A, #imm` (R257): `F F`. -/
def execAdcAImm (imm : Byte) (s : State) : Host.Outcome State Fault Refusal :=
  .next ((s.fetch2 0x88 imm).combineA aluAdc imm)

/-- `ADC A, (X)` (R258): `F I R`. -/
def execAdcAIndX (s : State) : Host.Outcome State Fault Refusal :=
  .next (((s.fetchOpcode 0x86).indirectX).combineA aluAdc)

/-- `ADC A, dp` (R259): `F F R`. -/
def execAdcADp (o : Byte) (s : State) : Host.Outcome State Fault Refusal :=
  .next (((s.fetch2 0x84 o).directPage o).combineA aluAdc)

/-- `ADC A, dp+X` (R260): `F F I R`. -/
def execAdcADpX (o : Byte) (s : State) : Host.Outcome State Fault Refusal :=
  .next (((s.fetch2 0x94 o).directPageX o).combineA aluAdc)

/-- `ADC A, !abs` (R261): `F F F R`. -/
def execAdcAAbs (addr : Word) (s : State) : Host.Outcome State Fault Refusal :=
  .next (((s.fetchWord 0x85 addr).absolute addr).combineA aluAdc)

/-- `ADC A, !abs+X` (R262): `F F F I R`. -/
def execAdcAAbsX (addr : Word) (s : State) : Host.Outcome State Fault Refusal :=
  .next (((s.fetchWord 0x95 addr).absoluteX addr).combineA aluAdc)

/-- `ADC A, !abs+Y` (R263): `F F F I R`. -/
def execAdcAAbsY (addr : Word) (s : State) : Host.Outcome State Fault Refusal :=
  .next (((s.fetchWord 0x96 addr).absoluteY addr).combineA aluAdc)

/-- `ADC A, [dp+X]` (R264): `F F I R R R`. -/
def execAdcAIdxInd (o : Byte) (s : State) : Host.Outcome State Fault Refusal :=
  .next (((s.fetch2 0x87 o).indexedIndirect o).combineA aluAdc)

/-- `ADC A, [dp]+Y` (R265): `F F I R R R`. -/
def execAdcAIndIdx (o : Byte) (s : State) : Host.Outcome State Fault Refusal :=
  .next (((s.fetch2 0x97 o).indirectIndexed o).combineA aluAdc)

/-- `SBC A, #imm` (R266): `F F`. -/
def execSbcAImm (imm : Byte) (s : State) : Host.Outcome State Fault Refusal :=
  .next ((s.fetch2 0xA8 imm).combineA aluSbc imm)

/-- `SBC A, (X)` (R267): `F I R`. -/
def execSbcAIndX (s : State) : Host.Outcome State Fault Refusal :=
  .next (((s.fetchOpcode 0xA6).indirectX).combineA aluSbc)

/-- `SBC A, dp` (R268): `F F R`. -/
def execSbcADp (o : Byte) (s : State) : Host.Outcome State Fault Refusal :=
  .next (((s.fetch2 0xA4 o).directPage o).combineA aluSbc)

/-- `SBC A, dp+X` (R269): `F F I R`. -/
def execSbcADpX (o : Byte) (s : State) : Host.Outcome State Fault Refusal :=
  .next (((s.fetch2 0xB4 o).directPageX o).combineA aluSbc)

/-- `SBC A, !abs` (R270): `F F F R`. -/
def execSbcAAbs (addr : Word) (s : State) : Host.Outcome State Fault Refusal :=
  .next (((s.fetchWord 0xA5 addr).absolute addr).combineA aluSbc)

/-- `SBC A, !abs+X` (R271): `F F F I R`. -/
def execSbcAAbsX (addr : Word) (s : State) : Host.Outcome State Fault Refusal :=
  .next (((s.fetchWord 0xB5 addr).absoluteX addr).combineA aluSbc)

/-- `SBC A, !abs+Y` (R272): `F F F I R`. -/
def execSbcAAbsY (addr : Word) (s : State) : Host.Outcome State Fault Refusal :=
  .next (((s.fetchWord 0xB6 addr).absoluteY addr).combineA aluSbc)

/-- `SBC A, [dp+X]` (R273): `F F I R R R`. -/
def execSbcAIdxInd (o : Byte) (s : State) : Host.Outcome State Fault Refusal :=
  .next (((s.fetch2 0xA7 o).indexedIndirect o).combineA aluSbc)

/-- `SBC A, [dp]+Y` (R274): `F F I R R R`. -/
def execSbcAIndIdx (o : Byte) (s : State) : Host.Outcome State Fault Refusal :=
  .next (((s.fetch2 0xB7 o).indirectIndexed o).combineA aluSbc)

/-- `CMP X, #imm` (R275): `F F`. -/
def execCmpXImm (imm : Byte) (s : State) : Host.Outcome State Fault Refusal :=
  .next ((s.fetch2 0xC8 imm).compare s.x imm)

/-- `CMP X, dp` (R276): `F F R`. -/
def execCmpXDp (o : Byte) (s : State) : Host.Outcome State Fault Refusal :=
  .next (((s.fetch2 0x3E o).directPage o).compare s.x)

/-- `CMP X, !abs` (R277): `F F F R`. -/
def execCmpXAbs (addr : Word) (s : State) : Host.Outcome State Fault Refusal :=
  .next (((s.fetchWord 0x1E addr).absolute addr).compare s.x)

/-- `CMP Y, #imm` (R278): `F F`. -/
def execCmpYImm (imm : Byte) (s : State) : Host.Outcome State Fault Refusal :=
  .next ((s.fetch2 0xAD imm).compare s.y imm)

/-- `CMP Y, dp` (R279): `F F R`. -/
def execCmpYDp (o : Byte) (s : State) : Host.Outcome State Fault Refusal :=
  .next (((s.fetch2 0x7E o).directPage o).compare s.y)

/-- `CMP Y, !abs` (R280): `F F F R`. -/
def execCmpYAbs (addr : Word) (s : State) : Host.Outcome State Fault Refusal :=
  .next (((s.fetchWord 0x5E addr).absolute addr).compare s.y)

/-- `ADDW AX, dp` (R281): `F F R I R`. -/
def execAddwAXDp (o : Byte) (s : State) : Host.Outcome State Fault Refusal :=
  let t := s.fetch2 0x7A o
  let res := aluAddw s.ax (t.spacedWordValue o) s.psw
  .next { (t.readSpacedWord o).setAX res.value with psw := res.psw }

/-- `SUBW AX, dp` (R282): `F F R I R`. -/
def execSubwAXDp (o : Byte) (s : State) : Host.Outcome State Fault Refusal :=
  let t := s.fetch2 0x9A o
  let res := aluSubw s.ax (t.spacedWordValue o) s.psw
  .next { (t.readSpacedWord o).setAX res.value with psw := res.psw }

/-- `CMPW AX, dp` (R283): `F F R R`. -/
def execCmpwAXDp (o : Byte) (s : State) : Host.Outcome State Fault Refusal :=
  let t := s.fetch2 0x5A o
  .next { t.readPointer o with psw := aluCmpw s.ax (t.pointerAt o) s.psw }

/-- `AND1 C, m.b` (R284): `F F F R`. -/
def execAnd1CBit (m : Word) (b : BitVec 3) (s : State) : Host.Outcome State Fault Refusal :=
  let v := (s.fetchBit 0x4A m b).absoluteBit m
  .next { v.read with psw := { s.psw with c := s.psw.c && bitOf v.value b } }

/-- `AND1 C, /m.b` (R285): `F F F R`. -/
def execAnd1CNotBit (m : Word) (b : BitVec 3) (s : State) : Host.Outcome State Fault Refusal :=
  let v := (s.fetchBit 0x6A m b).absoluteBit m
  .next { v.read with psw := { s.psw with c := s.psw.c && !bitOf v.value b } }

/-- `OR1 C, m.b` (R286): `F F F R I`. -/
def execOr1CBit (m : Word) (b : BitVec 3) (s : State) : Host.Outcome State Fault Refusal :=
  let v := (s.fetchBit 0x0A m b).absoluteBit m
  .next { v.read.idle with psw := { s.psw with c := s.psw.c || bitOf v.value b } }

/-- `OR1 C, /m.b` (R287): `F F F R I`. -/
def execOr1CNotBit (m : Word) (b : BitVec 3) (s : State) : Host.Outcome State Fault Refusal :=
  let v := (s.fetchBit 0x2A m b).absoluteBit m
  .next { v.read.idle with psw := { s.psw with c := s.psw.c || !bitOf v.value b } }

/-- `EOR1 C, m.b` (R288): `F F F R I`. -/
def execEor1CBit (m : Word) (b : BitVec 3) (s : State) : Host.Outcome State Fault Refusal :=
  let v := (s.fetchBit 0x8A m b).absoluteBit m
  .next { v.read.idle with psw := { s.psw with c := xor s.psw.c (bitOf v.value b) } }

end Sys2Proof.Machine
end

