-- ==== Sys2Proof/Machine/Dispatch.lean ====
section
/-! DEFINITION. The dispatch table (R380): one arm for each constructor of Instr, each a call of its meaning. -/

namespace Sys2Proof.Machine

/-- Run one instruction (R380, R381). -/
def exec (i : Instr) (s : State) : Host.Outcome State Fault Refusal :=
  match i with
  | .nop => Sys2Proof.Machine.execNop s
  | .tcall0 => Sys2Proof.Machine.execTcall0 s
  | .set1b0 o => Sys2Proof.Machine.execSet1b0 o s
  | .bbs0 o r => Sys2Proof.Machine.execBbs0 o r s
  | .orADp o => Sys2Proof.Machine.execOrADp o s
  | .orAAbs addr => Sys2Proof.Machine.execOrAAbs addr s
  | .orAIndX => Sys2Proof.Machine.execOrAIndX s
  | .orAIdxInd o => Sys2Proof.Machine.execOrAIdxInd o s
  | .orAImm imm => Sys2Proof.Machine.execOrAImm imm s
  | .orDpDp dst src => Sys2Proof.Machine.execOrDpDp dst src s
  | .or1CBit m b => Sys2Proof.Machine.execOr1CBit m b s
  | .aslDp o => Sys2Proof.Machine.execAslDp o s
  | .aslAbs addr => Sys2Proof.Machine.execAslAbs addr s
  | .pushPsw => Sys2Proof.Machine.execPushPsw s
  | .tset1Abs addr => Sys2Proof.Machine.execTset1Abs addr s
  | .brk => Sys2Proof.Machine.execBrk s
  | .bpl r => Sys2Proof.Machine.execBpl r s
  | .tcall1 => Sys2Proof.Machine.execTcall1 s
  | .clr1b0 o => Sys2Proof.Machine.execClr1b0 o s
  | .bbc0 o r => Sys2Proof.Machine.execBbc0 o r s
  | .orADpX o => Sys2Proof.Machine.execOrADpX o s
  | .orAAbsX addr => Sys2Proof.Machine.execOrAAbsX addr s
  | .orAAbsY addr => Sys2Proof.Machine.execOrAAbsY addr s
  | .orAIndIdx o => Sys2Proof.Machine.execOrAIndIdx o s
  | .orDpImm dst imm => Sys2Proof.Machine.execOrDpImm dst imm s
  | .orIndXIndY => Sys2Proof.Machine.execOrIndXIndY s
  | .decwDp o => Sys2Proof.Machine.execDecwDp o s
  | .aslDpX o => Sys2Proof.Machine.execAslDpX o s
  | .aslA => Sys2Proof.Machine.execAslA s
  | .decX => Sys2Proof.Machine.execDecX s
  | .cmpXAbs addr => Sys2Proof.Machine.execCmpXAbs addr s
  | .jmpAbsXInd addr => Sys2Proof.Machine.execJmpAbsXInd addr s
  | .clrp => Sys2Proof.Machine.execClrp s
  | .tcall2 => Sys2Proof.Machine.execTcall2 s
  | .set1b1 o => Sys2Proof.Machine.execSet1b1 o s
  | .bbs1 o r => Sys2Proof.Machine.execBbs1 o r s
  | .andADp o => Sys2Proof.Machine.execAndADp o s
  | .andAAbs addr => Sys2Proof.Machine.execAndAAbs addr s
  | .andAIndX => Sys2Proof.Machine.execAndAIndX s
  | .andAIdxInd o => Sys2Proof.Machine.execAndAIdxInd o s
  | .andAImm imm => Sys2Proof.Machine.execAndAImm imm s
  | .andDpDp dst src => Sys2Proof.Machine.execAndDpDp dst src s
  | .or1CNotBit m b => Sys2Proof.Machine.execOr1CNotBit m b s
  | .rolDp o => Sys2Proof.Machine.execRolDp o s
  | .rolAbs addr => Sys2Proof.Machine.execRolAbs addr s
  | .pushA => Sys2Proof.Machine.execPushA s
  | .cbneDp o r => Sys2Proof.Machine.execCbneDp o r s
  | .bra r => Sys2Proof.Machine.execBra r s
  | .bmi r => Sys2Proof.Machine.execBmi r s
  | .tcall3 => Sys2Proof.Machine.execTcall3 s
  | .clr1b1 o => Sys2Proof.Machine.execClr1b1 o s
  | .bbc1 o r => Sys2Proof.Machine.execBbc1 o r s
  | .andADpX o => Sys2Proof.Machine.execAndADpX o s
  | .andAAbsX addr => Sys2Proof.Machine.execAndAAbsX addr s
  | .andAAbsY addr => Sys2Proof.Machine.execAndAAbsY addr s
  | .andAIndIdx o => Sys2Proof.Machine.execAndAIndIdx o s
  | .andDpImm dst imm => Sys2Proof.Machine.execAndDpImm dst imm s
  | .andIndXIndY => Sys2Proof.Machine.execAndIndXIndY s
  | .incwDp o => Sys2Proof.Machine.execIncwDp o s
  | .rolDpX o => Sys2Proof.Machine.execRolDpX o s
  | .rolA => Sys2Proof.Machine.execRolA s
  | .incX => Sys2Proof.Machine.execIncX s
  | .cmpXDp o => Sys2Proof.Machine.execCmpXDp o s
  | .call addr => Sys2Proof.Machine.execCall addr s
  | .setp => Sys2Proof.Machine.execSetp s
  | .tcall4 => Sys2Proof.Machine.execTcall4 s
  | .set1b2 o => Sys2Proof.Machine.execSet1b2 o s
  | .bbs2 o r => Sys2Proof.Machine.execBbs2 o r s
  | .eorADp o => Sys2Proof.Machine.execEorADp o s
  | .eorAAbs addr => Sys2Proof.Machine.execEorAAbs addr s
  | .eorAIndX => Sys2Proof.Machine.execEorAIndX s
  | .eorAIdxInd o => Sys2Proof.Machine.execEorAIdxInd o s
  | .eorAImm imm => Sys2Proof.Machine.execEorAImm imm s
  | .eorDpDp dst src => Sys2Proof.Machine.execEorDpDp dst src s
  | .and1CBit m b => Sys2Proof.Machine.execAnd1CBit m b s
  | .lsrDp o => Sys2Proof.Machine.execLsrDp o s
  | .lsrAbs addr => Sys2Proof.Machine.execLsrAbs addr s
  | .pushX => Sys2Proof.Machine.execPushX s
  | .tclr1Abs addr => Sys2Proof.Machine.execTclr1Abs addr s
  | .pcall u => Sys2Proof.Machine.execPcall u s
  | .bvc r => Sys2Proof.Machine.execBvc r s
  | .tcall5 => Sys2Proof.Machine.execTcall5 s
  | .clr1b2 o => Sys2Proof.Machine.execClr1b2 o s
  | .bbc2 o r => Sys2Proof.Machine.execBbc2 o r s
  | .eorADpX o => Sys2Proof.Machine.execEorADpX o s
  | .eorAAbsX addr => Sys2Proof.Machine.execEorAAbsX addr s
  | .eorAAbsY addr => Sys2Proof.Machine.execEorAAbsY addr s
  | .eorAIndIdx o => Sys2Proof.Machine.execEorAIndIdx o s
  | .eorDpImm dst imm => Sys2Proof.Machine.execEorDpImm dst imm s
  | .eorIndXIndY => Sys2Proof.Machine.execEorIndXIndY s
  | .cmpwAXDp o => Sys2Proof.Machine.execCmpwAXDp o s
  | .lsrDpX o => Sys2Proof.Machine.execLsrDpX o s
  | .lsrA => Sys2Proof.Machine.execLsrA s
  | .movXA => Sys2Proof.Machine.execMovXA s
  | .cmpYAbs addr => Sys2Proof.Machine.execCmpYAbs addr s
  | .jmpAbs addr => Sys2Proof.Machine.execJmpAbs addr s
  | .clrc => Sys2Proof.Machine.execClrc s
  | .tcall6 => Sys2Proof.Machine.execTcall6 s
  | .set1b3 o => Sys2Proof.Machine.execSet1b3 o s
  | .bbs3 o r => Sys2Proof.Machine.execBbs3 o r s
  | .cmpADp o => Sys2Proof.Machine.execCmpADp o s
  | .cmpAAbs addr => Sys2Proof.Machine.execCmpAAbs addr s
  | .cmpAIndX => Sys2Proof.Machine.execCmpAIndX s
  | .cmpAIdxInd o => Sys2Proof.Machine.execCmpAIdxInd o s
  | .cmpAImm imm => Sys2Proof.Machine.execCmpAImm imm s
  | .cmpDpDp dst src => Sys2Proof.Machine.execCmpDpDp dst src s
  | .and1CNotBit m b => Sys2Proof.Machine.execAnd1CNotBit m b s
  | .rorDp o => Sys2Proof.Machine.execRorDp o s
  | .rorAbs addr => Sys2Proof.Machine.execRorAbs addr s
  | .pushY => Sys2Proof.Machine.execPushY s
  | .dbnzDp o r => Sys2Proof.Machine.execDbnzDp o r s
  | .ret => Sys2Proof.Machine.execRet s
  | .bvs r => Sys2Proof.Machine.execBvs r s
  | .tcall7 => Sys2Proof.Machine.execTcall7 s
  | .clr1b3 o => Sys2Proof.Machine.execClr1b3 o s
  | .bbc3 o r => Sys2Proof.Machine.execBbc3 o r s
  | .cmpADpX o => Sys2Proof.Machine.execCmpADpX o s
  | .cmpAAbsX addr => Sys2Proof.Machine.execCmpAAbsX addr s
  | .cmpAAbsY addr => Sys2Proof.Machine.execCmpAAbsY addr s
  | .cmpAIndIdx o => Sys2Proof.Machine.execCmpAIndIdx o s
  | .cmpDpImm dst imm => Sys2Proof.Machine.execCmpDpImm dst imm s
  | .cmpIndXIndY => Sys2Proof.Machine.execCmpIndXIndY s
  | .addwAXDp o => Sys2Proof.Machine.execAddwAXDp o s
  | .rorDpX o => Sys2Proof.Machine.execRorDpX o s
  | .rorA => Sys2Proof.Machine.execRorA s
  | .movAX => Sys2Proof.Machine.execMovAX s
  | .cmpYDp o => Sys2Proof.Machine.execCmpYDp o s
  | .reti => Sys2Proof.Machine.execReti s
  | .setc => Sys2Proof.Machine.execSetc s
  | .tcall8 => Sys2Proof.Machine.execTcall8 s
  | .set1b4 o => Sys2Proof.Machine.execSet1b4 o s
  | .bbs4 o r => Sys2Proof.Machine.execBbs4 o r s
  | .adcADp o => Sys2Proof.Machine.execAdcADp o s
  | .adcAAbs addr => Sys2Proof.Machine.execAdcAAbs addr s
  | .adcAIndX => Sys2Proof.Machine.execAdcAIndX s
  | .adcAIdxInd o => Sys2Proof.Machine.execAdcAIdxInd o s
  | .adcAImm imm => Sys2Proof.Machine.execAdcAImm imm s
  | .adcDpDp dst src => Sys2Proof.Machine.execAdcDpDp dst src s
  | .eor1CBit m b => Sys2Proof.Machine.execEor1CBit m b s
  | .decDp o => Sys2Proof.Machine.execDecDp o s
  | .decAbs addr => Sys2Proof.Machine.execDecAbs addr s
  | .movYImm imm => Sys2Proof.Machine.execMovYImm imm s
  | .popPsw => Sys2Proof.Machine.execPopPsw s
  | .movDpImm dst imm => Sys2Proof.Machine.execMovDpImm dst imm s
  | .bcc r => Sys2Proof.Machine.execBcc r s
  | .tcall9 => Sys2Proof.Machine.execTcall9 s
  | .clr1b4 o => Sys2Proof.Machine.execClr1b4 o s
  | .bbc4 o r => Sys2Proof.Machine.execBbc4 o r s
  | .adcADpX o => Sys2Proof.Machine.execAdcADpX o s
  | .adcAAbsX addr => Sys2Proof.Machine.execAdcAAbsX addr s
  | .adcAAbsY addr => Sys2Proof.Machine.execAdcAAbsY addr s
  | .adcAIndIdx o => Sys2Proof.Machine.execAdcAIndIdx o s
  | .adcDpImm dst imm => Sys2Proof.Machine.execAdcDpImm dst imm s
  | .adcIndXIndY => Sys2Proof.Machine.execAdcIndXIndY s
  | .subwAXDp o => Sys2Proof.Machine.execSubwAXDp o s
  | .decDpX o => Sys2Proof.Machine.execDecDpX o s
  | .decA => Sys2Proof.Machine.execDecA s
  | .movXSP => Sys2Proof.Machine.execMovXSP s
  | .divAXY => Sys2Proof.Machine.execDivAXY s
  | .xcn => Sys2Proof.Machine.execXcn s
  | .ei => Sys2Proof.Machine.execEi s
  | .tcall10 => Sys2Proof.Machine.execTcall10 s
  | .set1b5 o => Sys2Proof.Machine.execSet1b5 o s
  | .bbs5 o r => Sys2Proof.Machine.execBbs5 o r s
  | .sbcADp o => Sys2Proof.Machine.execSbcADp o s
  | .sbcAAbs addr => Sys2Proof.Machine.execSbcAAbs addr s
  | .sbcAIndX => Sys2Proof.Machine.execSbcAIndX s
  | .sbcAIdxInd o => Sys2Proof.Machine.execSbcAIdxInd o s
  | .sbcAImm imm => Sys2Proof.Machine.execSbcAImm imm s
  | .sbcDpDp dst src => Sys2Proof.Machine.execSbcDpDp dst src s
  | .mov1CBit m b => Sys2Proof.Machine.execMov1CBit m b s
  | .incDp o => Sys2Proof.Machine.execIncDp o s
  | .incAbs addr => Sys2Proof.Machine.execIncAbs addr s
  | .cmpYImm imm => Sys2Proof.Machine.execCmpYImm imm s
  | .popA => Sys2Proof.Machine.execPopA s
  | .movIndXIncA => Sys2Proof.Machine.execMovIndXIncA s
  | .bcs r => Sys2Proof.Machine.execBcs r s
  | .tcall11 => Sys2Proof.Machine.execTcall11 s
  | .clr1b5 o => Sys2Proof.Machine.execClr1b5 o s
  | .bbc5 o r => Sys2Proof.Machine.execBbc5 o r s
  | .sbcADpX o => Sys2Proof.Machine.execSbcADpX o s
  | .sbcAAbsX addr => Sys2Proof.Machine.execSbcAAbsX addr s
  | .sbcAAbsY addr => Sys2Proof.Machine.execSbcAAbsY addr s
  | .sbcAIndIdx o => Sys2Proof.Machine.execSbcAIndIdx o s
  | .sbcDpImm dst imm => Sys2Proof.Machine.execSbcDpImm dst imm s
  | .sbcIndXIndY => Sys2Proof.Machine.execSbcIndXIndY s
  | .movwAXDp o => Sys2Proof.Machine.execMovwAXDp o s
  | .incDpX o => Sys2Proof.Machine.execIncDpX o s
  | .incA => Sys2Proof.Machine.execIncA s
  | .movSPX => Sys2Proof.Machine.execMovSPX s
  | .das => Sys2Proof.Machine.execDas s
  | .movAIndXInc => Sys2Proof.Machine.execMovAIndXInc s
  | .di => Sys2Proof.Machine.execDi s
  | .tcall12 => Sys2Proof.Machine.execTcall12 s
  | .set1b6 o => Sys2Proof.Machine.execSet1b6 o s
  | .bbs6 o r => Sys2Proof.Machine.execBbs6 o r s
  | .movDpA o => Sys2Proof.Machine.execMovDpA o s
  | .movAbsA addr => Sys2Proof.Machine.execMovAbsA addr s
  | .movIndXA => Sys2Proof.Machine.execMovIndXA s
  | .movIdxIndA o => Sys2Proof.Machine.execMovIdxIndA o s
  | .cmpXImm imm => Sys2Proof.Machine.execCmpXImm imm s
  | .movAbsX addr => Sys2Proof.Machine.execMovAbsX addr s
  | .mov1BitC m b => Sys2Proof.Machine.execMov1BitC m b s
  | .movDpY o => Sys2Proof.Machine.execMovDpY o s
  | .movAbsY addr => Sys2Proof.Machine.execMovAbsY addr s
  | .movXImm imm => Sys2Proof.Machine.execMovXImm imm s
  | .popX => Sys2Proof.Machine.execPopX s
  | .mulAX => Sys2Proof.Machine.execMulAX s
  | .bne r => Sys2Proof.Machine.execBne r s
  | .tcall13 => Sys2Proof.Machine.execTcall13 s
  | .clr1b6 o => Sys2Proof.Machine.execClr1b6 o s
  | .bbc6 o r => Sys2Proof.Machine.execBbc6 o r s
  | .movDpXA o => Sys2Proof.Machine.execMovDpXA o s
  | .movAbsXA addr => Sys2Proof.Machine.execMovAbsXA addr s
  | .movAbsYA addr => Sys2Proof.Machine.execMovAbsYA addr s
  | .movIndIdxA o => Sys2Proof.Machine.execMovIndIdxA o s
  | .movDpX o => Sys2Proof.Machine.execMovDpX o s
  | .movDpYX o => Sys2Proof.Machine.execMovDpYX o s
  | .movwDpAX o => Sys2Proof.Machine.execMovwDpAX o s
  | .movDpXY o => Sys2Proof.Machine.execMovDpXY o s
  | .decY => Sys2Proof.Machine.execDecY s
  | .movAY => Sys2Proof.Machine.execMovAY s
  | .cbneDpX o r => Sys2Proof.Machine.execCbneDpX o r s
  | .daa => Sys2Proof.Machine.execDaa s
  | .clrv => Sys2Proof.Machine.execClrv s
  | .tcall14 => Sys2Proof.Machine.execTcall14 s
  | .set1b7 o => Sys2Proof.Machine.execSet1b7 o s
  | .bbs7 o r => Sys2Proof.Machine.execBbs7 o r s
  | .movADp o => Sys2Proof.Machine.execMovADp o s
  | .movAAbs addr => Sys2Proof.Machine.execMovAAbs addr s
  | .movAIndX => Sys2Proof.Machine.execMovAIndX s
  | .movAIdxInd o => Sys2Proof.Machine.execMovAIdxInd o s
  | .movAImm imm => Sys2Proof.Machine.execMovAImm imm s
  | .movXAbs addr => Sys2Proof.Machine.execMovXAbs addr s
  | .not1Bit m b => Sys2Proof.Machine.execNot1Bit m b s
  | .movYDp o => Sys2Proof.Machine.execMovYDp o s
  | .movYAbs addr => Sys2Proof.Machine.execMovYAbs addr s
  | .notc => Sys2Proof.Machine.execNotc s
  | .popY => Sys2Proof.Machine.execPopY s
  | .sleep => Sys2Proof.Machine.execSleep s
  | .beq r => Sys2Proof.Machine.execBeq r s
  | .tcall15 => Sys2Proof.Machine.execTcall15 s
  | .clr1b7 o => Sys2Proof.Machine.execClr1b7 o s
  | .bbc7 o r => Sys2Proof.Machine.execBbc7 o r s
  | .movADpX o => Sys2Proof.Machine.execMovADpX o s
  | .movAAbsX addr => Sys2Proof.Machine.execMovAAbsX addr s
  | .movAAbsY addr => Sys2Proof.Machine.execMovAAbsY addr s
  | .movAIndIdx o => Sys2Proof.Machine.execMovAIndIdx o s
  | .movXDp o => Sys2Proof.Machine.execMovXDp o s
  | .movXDpY o => Sys2Proof.Machine.execMovXDpY o s
  | .movDpDp dst src => Sys2Proof.Machine.execMovDpDp dst src s
  | .movYDpX o => Sys2Proof.Machine.execMovYDpX o s
  | .incY => Sys2Proof.Machine.execIncY s
  | .movYA => Sys2Proof.Machine.execMovYA s
  | .dbnzY r => Sys2Proof.Machine.execDbnzY r s
  | .stop => Sys2Proof.Machine.execStop s

end Sys2Proof.Machine
end

