-- ==== Sys2Proof/Machine/Fetch.lean ====
section
/-! DEFINITION. Which instruction the next step runs (R381): the bytes the bus answers at the cycles at which that
instruction fetches them (R62, log entries 5 and 13). -/

namespace Sys2Proof.Machine

/-- The data cycles between the fetch of operand byte 1 and the fetch of operand byte 2 (R70). -/
def State.beforeLateFetch (s : State) (k : LateFetch) (o : Byte) : State :=
  match k with
  | .afterRead => s.read (s.dp o)
  | .afterIndexedRead => s.idle.read (s.dp (o + s.x))
  | .afterDecrement => (s.read (s.dp o)).write (s.dp o) (s.bus (s.dp o) - 1)

/-- The state in which operand byte 2 is fetched, from the state after operand byte 1. -/
def State.beforeOperand2 (s : State) (slot : Slot) (b1 : Byte) : State :=
  match slot with
  | .late k _ => s.beforeLateFetch k b1
  | .implied _ | .operand _ | .twoOperands _ | .wordOperand _ | .bitOperand _ => s

/-- The opcode byte the next step fetches. -/
def State.opcodeByte (s : State) : Byte := s.bus s.pc

/-- The byte the next step fetches as operand byte 1, if its instruction has one. -/
def State.operandByte1 (s : State) : Byte :=
  let t := s.fetchOpcode s.opcodeByte
  t.bus t.pc

/-- The byte the next step fetches as operand byte 2, if its instruction has one. -/
def State.operandByte2 (s : State) : Byte :=
  let t := (s.fetch2 s.opcodeByte s.operandByte1).beforeOperand2 (slotOf s.opcodeByte) s.operandByte1
  t.bus t.pc

/-- The instruction the next step runs. -/
def State.nextInstr (s : State) : Instr := decodeBytes s.opcodeByte s.operandByte1 s.operandByte2

end Sys2Proof.Machine
end

