-- ==== Sys2Proof/Machine/Step.lean ====
section
/-! DEFINITION. One step (R381, R384), and the placing of an instruction where the next step fetches it. -/

namespace Sys2Proof.Machine

/-- One step of a core with the given parameters (R4): one idle cycle while HALTED (R384), else the block move that
`BLKMOV_SLOTS` gives the opcode byte (R86), else the instruction of the opcode matrix (R381). No step reads the cycle
counter, so its width changes nothing here (R42). -/
def stepWith (p : Parameters) (s : State) : Host.Outcome State Fault Refusal :=
  if s.halt then .next s.idle
  else
    match p.blkmovSlots.lookup s.opcodeByte with
    | some bm => .next (s.blockMove bm)
    | none => exec s.nextInstr s

/-- One step of the core. -/
def step (s : State) : Host.Outcome State Fault Refusal := stepWith Config.parameters s

/-- The state with an instruction's bytes at PC and the two addresses after it, its bits numbered as
opcode_table.json numbers them and every bit from `nbits` up 0. The core is RUNNING, and the oracle says nothing of the
five cycles in which an instruction can fetch (log entry 11). -/
def State.withFetchWord (s : State) (nbits w : Nat) : State :=
  { s with
    halt := false
    mem := memStore (memStore (memStore s.mem
      s.pc.toNat (tableByte nbits w 0))
      (s.pc + 1).toNat (tableByte nbits w 1))
      (s.pc + 2).toNat (tableByte nbits w 2)
    oracle := s.oracle.filter (fun e => decide (e.1 < s.cycles ∨ s.cycles + 5 ≤ e.1)) }

end Sys2Proof.Machine
end

