-- ==== Sys2Proof/Machine/HostOps.lean ====
section
/-! DEFINITION. What the host can do to the core besides a step (R10): reset, the halt query, `run`, export and import.
They act between steps only (R386, R435). -/

namespace Sys2Proof.Machine

/-- PSW after reset: Z = 1, every other flag 0 (R432). -/
def resetPsw : Psw :=
  { c := false, z := true, i := false, h := false, b := false, p := false, v := false, n := false }

/-- The reset sequence (R431): the registers, then the two reads of the vector, then PC. The cycle counter and memory
go on (R434); the operand latches are 0 (R432). -/
def State.resetFrom (s : State) : State :=
  let t : State := { s with a := 0x00, x := 0x00, y := 0x00, sp := 0xEF, psw := resetPsw, halt := false }
  { t.readWord resetVector with
    pc := t.wordValue resetVector, latch0 := 0x00, latch1 := 0x00, latch2 := 0x00 }

/-- The halt query (R388). -/
def State.isHalted (s : State) : Bool := s.halt

/-- The cycle counter as its reader sees it (R42): `CYCLE_WIDTH` bits of the cycles consumed. A counter of a fixed width
starts again at 0 when it is full (DESIGN CHOICE, log entry 7). -/
def State.cycleCounter (p : Parameters) (s : State) : Nat :=
  match p.cycleWidth with
  | none => s.cycles
  | some w => s.cycles % 2 ^ w

/-- The delta a reader of the counter takes between two states of a run (R42), modulo the counter's range. -/
def counterDelta (p : Parameters) (s t : State) : Nat :=
  match p.cycleWidth with
  | none => t.cycleCounter p - s.cycleCounter p
  | some w => (t.cycleCounter p + 2 ^ w - s.cycleCounter p) % 2 ^ w

/-- The number of cycles between two states of a run, what `step()` reports (R382): the counter's width does not enter
into it (92_eei_decisions.md D15). -/
def cyclesBetween (s t : State) : Nat := t.cycles - s.cycles

/-- The length of the serialization record (R47). -/
def recordLength : Nat := 11

/-- The version byte of the serialization record (R47). -/
def recordVersion : Byte := 0x01

/-- `export` (R47): 11 bytes, the latches written as zero. -/
def State.exportRecord (s : State) : List Byte :=
  [recordVersion, wordLow s.pc, wordHigh s.pc, s.a, s.x, s.y, s.sp, s.psw.toByte,
    if s.halt then 0x01 else 0x00, 0x00, 0x00]

/-- Why an import is refused (R47, R414): an error to the host, which leaves the state as it was. -/
inductive ImportError where
  /-- The record is not 11 bytes long. -/
  | wrongLength (n : Nat)
  /-- Byte 0 is not 0x01. -/
  | wrongVersion (v : Byte)
  /-- Byte 8 is neither 0x00 nor 0x01. -/
  | wrongHalt (v : Byte)
  deriving DecidableEq, Repr

/-- `import` (R47): the registers, PSW and HALT from the record; bytes 9 and 10 are ignored, the cycle counter and
everything behind the bus stay. -/
def State.importRecord (s : State) (record : List Byte) : Except ImportError State :=
  match record with
  | [version, pcLow, pcHigh, a, x, y, sp, psw, halt, _, _] =>
    if version ≠ recordVersion then .error (.wrongVersion version)
    else if halt = 0x00 ∨ halt = 0x01 then
      .ok { s with
        pc := wordOf pcHigh pcLow, a := a, x := x, y := y, sp := sp, psw := Psw.ofByte psw,
        halt := halt == 0x01 }
    else .error (.wrongHalt halt)
  | other => .error (.wrongLength other.length)

/-- The loop of `run` (R385): step while the cycles consumed are fewer than the budget, then report the overrun.
Each step costs a cycle or more, so a fuel of the budget's size never runs out (log entry 15). -/
def runLoop (p : Parameters) (budget : Int) : Nat → Int → State → Host.Outcome (Int × State) Fault Refusal
  | 0, consumed, s => .next (consumed - budget, s)
  | fuel + 1, consumed, s =>
    if consumed < budget then
      match stepWith p s with
      | .next t => runLoop p budget fuel (consumed + cyclesBetween s t) t
      | .fault r => .fault r
      | .refused r => .refused r
    else .next (consumed - budget, s)

/-- `run(cycle_budget)` (R385) of a core with the given parameters: the overrun and the state; a budget of 0 or less
runs nothing and reports 0. -/
def runBudget (p : Parameters) (budget : Int) (s : State) : Host.Outcome (Int × State) Fault Refusal :=
  if budget ≤ 0 then .next (0, s) else runLoop p budget budget.toNat 0 s

/-- The core with the given parameters (R4), in the host's form. -/
def coreWith (p : Parameters) : Host.Core :=
  { State := State, Fault := Fault, Refusal := Refusal, step := stepWith p, reset := State.reset }

end Sys2Proof.Machine
end

