-- ==== Sys2Proof/Machine/Timing.lean ====
section
/-! DEFINITION. The timing table (R81, R390, R448): the cycle sequence of every instruction as opcode_table.json gives
it, and which instructions add two internal cycles when their branch is taken. The machine does not read it: it says
what the meanings must spend. -/

namespace Sys2Proof.Machine

/-- The letters of a cycle sequence (R7). -/
inductive CycleKind where
  | f | r | d | w | i
  deriving DecidableEq, Repr

/-- The letter of a bus event. -/
def BusEvent.kind : BusEvent → CycleKind
  | .fetch _ _ => .f
  | .read _ _ => .r
  | .discard _ _ => .d
  | .write _ _ => .w
  | .idle => .i

/-- The cycle sequence of an instruction whose branch, if it has one, is not taken. -/
def cycleSequence : Instr → List CycleKind
  | .set1b0 _ => [.f, .f, .r, .w]
  | .bbs0 _ _ => [.f, .f, .r, .f, .i]
  | .orADp _ => [.f, .f, .r]
  | .orAAbs _ => [.f, .f, .f, .r]
  | .orAIdxInd _ => [.f, .f, .i, .r, .r, .r]
  | .orAImm _ => [.f, .f]
  | .orDpDp _ _ => [.f, .f, .r, .f, .r, .w]
  | .or1CBit _ _ => [.f, .f, .f, .r, .i]
  | .aslDp _ => [.f, .f, .r, .w]
  | .aslAbs _ => [.f, .f, .f, .r, .w]
  | .tset1Abs _ => [.f, .f, .f, .r, .d, .w]
  | .bpl _ => [.f, .f]
  | .clr1b0 _ => [.f, .f, .r, .w]
  | .bbc0 _ _ => [.f, .f, .r, .f, .i]
  | .orADpX _ => [.f, .f, .i, .r]
  | .orAAbsX _ => [.f, .f, .f, .i, .r]
  | .orAAbsY _ => [.f, .f, .f, .i, .r]
  | .orAIndIdx _ => [.f, .f, .i, .r, .r, .r]
  | .orDpImm _ _ => [.f, .f, .f, .r, .w]
  | .decwDp _ => [.f, .f, .r, .w, .r, .w]
  | .aslDpX _ => [.f, .f, .i, .r, .w]
  | .cmpXAbs _ => [.f, .f, .f, .r]
  | .jmpAbsXInd _ => [.f, .f, .f, .i, .r, .r]
  | .set1b1 _ => [.f, .f, .r, .w]
  | .bbs1 _ _ => [.f, .f, .r, .f, .i]
  | .andADp _ => [.f, .f, .r]
  | .andAAbs _ => [.f, .f, .f, .r]
  | .andAIdxInd _ => [.f, .f, .i, .r, .r, .r]
  | .andAImm _ => [.f, .f]
  | .andDpDp _ _ => [.f, .f, .r, .f, .r, .w]
  | .or1CNotBit _ _ => [.f, .f, .f, .r, .i]
  | .rolDp _ => [.f, .f, .r, .w]
  | .rolAbs _ => [.f, .f, .f, .r, .w]
  | .cbneDp _ _ => [.f, .f, .r, .f, .i]
  | .bra _ => [.f, .f, .i, .i]
  | .bmi _ => [.f, .f]
  | .clr1b1 _ => [.f, .f, .r, .w]
  | .bbc1 _ _ => [.f, .f, .r, .f, .i]
  | .andADpX _ => [.f, .f, .i, .r]
  | .andAAbsX _ => [.f, .f, .f, .i, .r]
  | .andAAbsY _ => [.f, .f, .f, .i, .r]
  | .andAIndIdx _ => [.f, .f, .i, .r, .r, .r]
  | .andDpImm _ _ => [.f, .f, .f, .r, .w]
  | .incwDp _ => [.f, .f, .r, .w, .r, .w]
  | .rolDpX _ => [.f, .f, .i, .r, .w]
  | .cmpXDp _ => [.f, .f, .r]
  | .call _ => [.f, .f, .f, .i, .i, .i, .w, .w]
  | .set1b2 _ => [.f, .f, .r, .w]
  | .bbs2 _ _ => [.f, .f, .r, .f, .i]
  | .eorADp _ => [.f, .f, .r]
  | .eorAAbs _ => [.f, .f, .f, .r]
  | .eorAIdxInd _ => [.f, .f, .i, .r, .r, .r]
  | .eorAImm _ => [.f, .f]
  | .eorDpDp _ _ => [.f, .f, .r, .f, .r, .w]
  | .and1CBit _ _ => [.f, .f, .f, .r]
  | .lsrDp _ => [.f, .f, .r, .w]
  | .lsrAbs _ => [.f, .f, .f, .r, .w]
  | .tclr1Abs _ => [.f, .f, .f, .r, .d, .w]
  | .pcall _ => [.f, .f, .i, .i, .w, .w]
  | .bvc _ => [.f, .f]
  | .clr1b2 _ => [.f, .f, .r, .w]
  | .bbc2 _ _ => [.f, .f, .r, .f, .i]
  | .eorADpX _ => [.f, .f, .i, .r]
  | .eorAAbsX _ => [.f, .f, .f, .i, .r]
  | .eorAAbsY _ => [.f, .f, .f, .i, .r]
  | .eorAIndIdx _ => [.f, .f, .i, .r, .r, .r]
  | .eorDpImm _ _ => [.f, .f, .f, .r, .w]
  | .cmpwAXDp _ => [.f, .f, .r, .r]
  | .lsrDpX _ => [.f, .f, .i, .r, .w]
  | .cmpYAbs _ => [.f, .f, .f, .r]
  | .jmpAbs _ => [.f, .f, .f]
  | .set1b3 _ => [.f, .f, .r, .w]
  | .bbs3 _ _ => [.f, .f, .r, .f, .i]
  | .cmpADp _ => [.f, .f, .r]
  | .cmpAAbs _ => [.f, .f, .f, .r]
  | .cmpAIdxInd _ => [.f, .f, .i, .r, .r, .r]
  | .cmpAImm _ => [.f, .f]
  | .cmpDpDp _ _ => [.f, .f, .r, .f, .r, .i]
  | .and1CNotBit _ _ => [.f, .f, .f, .r]
  | .rorDp _ => [.f, .f, .r, .w]
  | .rorAbs _ => [.f, .f, .f, .r, .w]
  | .dbnzDp _ _ => [.f, .f, .r, .w, .f]
  | .bvs _ => [.f, .f]
  | .clr1b3 _ => [.f, .f, .r, .w]
  | .bbc3 _ _ => [.f, .f, .r, .f, .i]
  | .cmpADpX _ => [.f, .f, .i, .r]
  | .cmpAAbsX _ => [.f, .f, .f, .i, .r]
  | .cmpAAbsY _ => [.f, .f, .f, .i, .r]
  | .cmpAIndIdx _ => [.f, .f, .i, .r, .r, .r]
  | .cmpDpImm _ _ => [.f, .f, .f, .r, .i]
  | .addwAXDp _ => [.f, .f, .r, .i, .r]
  | .rorDpX _ => [.f, .f, .i, .r, .w]
  | .cmpYDp _ => [.f, .f, .r]
  | .set1b4 _ => [.f, .f, .r, .w]
  | .bbs4 _ _ => [.f, .f, .r, .f, .i]
  | .adcADp _ => [.f, .f, .r]
  | .adcAAbs _ => [.f, .f, .f, .r]
  | .adcAIdxInd _ => [.f, .f, .i, .r, .r, .r]
  | .adcAImm _ => [.f, .f]
  | .adcDpDp _ _ => [.f, .f, .r, .f, .r, .w]
  | .eor1CBit _ _ => [.f, .f, .f, .r, .i]
  | .decDp _ => [.f, .f, .r, .w]
  | .decAbs _ => [.f, .f, .f, .r, .w]
  | .movYImm _ => [.f, .f]
  | .movDpImm _ _ => [.f, .f, .f, .d, .w]
  | .bcc _ => [.f, .f]
  | .clr1b4 _ => [.f, .f, .r, .w]
  | .bbc4 _ _ => [.f, .f, .r, .f, .i]
  | .adcADpX _ => [.f, .f, .i, .r]
  | .adcAAbsX _ => [.f, .f, .f, .i, .r]
  | .adcAAbsY _ => [.f, .f, .f, .i, .r]
  | .adcAIndIdx _ => [.f, .f, .i, .r, .r, .r]
  | .adcDpImm _ _ => [.f, .f, .f, .r, .w]
  | .subwAXDp _ => [.f, .f, .r, .i, .r]
  | .decDpX _ => [.f, .f, .i, .r, .w]
  | .set1b5 _ => [.f, .f, .r, .w]
  | .bbs5 _ _ => [.f, .f, .r, .f, .i]
  | .sbcADp _ => [.f, .f, .r]
  | .sbcAAbs _ => [.f, .f, .f, .r]
  | .sbcAIdxInd _ => [.f, .f, .i, .r, .r, .r]
  | .sbcAImm _ => [.f, .f]
  | .sbcDpDp _ _ => [.f, .f, .r, .f, .r, .w]
  | .mov1CBit _ _ => [.f, .f, .f, .r]
  | .incDp _ => [.f, .f, .r, .w]
  | .incAbs _ => [.f, .f, .f, .r, .w]
  | .cmpYImm _ => [.f, .f]
  | .bcs _ => [.f, .f]
  | .clr1b5 _ => [.f, .f, .r, .w]
  | .bbc5 _ _ => [.f, .f, .r, .f, .i]
  | .sbcADpX _ => [.f, .f, .i, .r]
  | .sbcAAbsX _ => [.f, .f, .f, .i, .r]
  | .sbcAAbsY _ => [.f, .f, .f, .i, .r]
  | .sbcAIndIdx _ => [.f, .f, .i, .r, .r, .r]
  | .sbcDpImm _ _ => [.f, .f, .f, .r, .w]
  | .movwAXDp _ => [.f, .f, .r, .i, .r]
  | .incDpX _ => [.f, .f, .i, .r, .w]
  | .set1b6 _ => [.f, .f, .r, .w]
  | .bbs6 _ _ => [.f, .f, .r, .f, .i]
  | .movDpA _ => [.f, .f, .d, .w]
  | .movAbsA _ => [.f, .f, .f, .d, .w]
  | .movIdxIndA _ => [.f, .f, .i, .r, .r, .d, .w]
  | .cmpXImm _ => [.f, .f]
  | .movAbsX _ => [.f, .f, .f, .d, .w]
  | .mov1BitC _ _ => [.f, .f, .f, .r, .i, .w]
  | .movDpY _ => [.f, .f, .d, .w]
  | .movAbsY _ => [.f, .f, .f, .d, .w]
  | .movXImm _ => [.f, .f]
  | .bne _ => [.f, .f]
  | .clr1b6 _ => [.f, .f, .r, .w]
  | .bbc6 _ _ => [.f, .f, .r, .f, .i]
  | .movDpXA _ => [.f, .f, .i, .d, .w]
  | .movAbsXA _ => [.f, .f, .f, .i, .d, .w]
  | .movAbsYA _ => [.f, .f, .f, .i, .d, .w]
  | .movIndIdxA _ => [.f, .f, .r, .r, .i, .d, .w]
  | .movDpX _ => [.f, .f, .d, .w]
  | .movDpYX _ => [.f, .f, .i, .d, .w]
  | .movwDpAX _ => [.f, .f, .d, .w, .w]
  | .movDpXY _ => [.f, .f, .i, .d, .w]
  | .cbneDpX _ _ => [.f, .f, .i, .r, .f, .i]
  | .set1b7 _ => [.f, .f, .r, .w]
  | .bbs7 _ _ => [.f, .f, .r, .f, .i]
  | .movADp _ => [.f, .f, .r]
  | .movAAbs _ => [.f, .f, .f, .r]
  | .movAIdxInd _ => [.f, .f, .i, .r, .r, .r]
  | .movAImm _ => [.f, .f]
  | .movXAbs _ => [.f, .f, .f, .r]
  | .not1Bit _ _ => [.f, .f, .f, .r, .w]
  | .movYDp _ => [.f, .f, .r]
  | .movYAbs _ => [.f, .f, .f, .r]
  | .beq _ => [.f, .f]
  | .clr1b7 _ => [.f, .f, .r, .w]
  | .bbc7 _ _ => [.f, .f, .r, .f, .i]
  | .movADpX _ => [.f, .f, .i, .r]
  | .movAAbsX _ => [.f, .f, .f, .i, .r]
  | .movAAbsY _ => [.f, .f, .f, .i, .r]
  | .movAIndIdx _ => [.f, .f, .i, .r, .r, .r]
  | .movXDp _ => [.f, .f, .r]
  | .movXDpY _ => [.f, .f, .i, .r]
  | .movDpDp _ _ => [.f, .f, .r, .f, .w]
  | .movYDpX _ => [.f, .f, .i, .r]
  | .dbnzY _ => [.f, .f, .i, .i]
  | .nop => [.f, .i]
  | .tcall0 => [.f, .r, .r, .i, .i, .i, .w, .w]
  | .orAIndX => [.f, .i, .r]
  | .pushPsw => [.f, .i, .i, .w]
  | .brk => [.f, .r, .r, .i, .i, .w, .w, .w]
  | .tcall1 => [.f, .r, .r, .i, .i, .i, .w, .w]
  | .orIndXIndY => [.f, .i, .r, .r, .w]
  | .aslA => [.f, .i]
  | .decX => [.f, .i]
  | .clrp => [.f, .i]
  | .tcall2 => [.f, .r, .r, .i, .i, .i, .w, .w]
  | .andAIndX => [.f, .i, .r]
  | .pushA => [.f, .i, .i, .w]
  | .tcall3 => [.f, .r, .r, .i, .i, .i, .w, .w]
  | .andIndXIndY => [.f, .i, .r, .r, .w]
  | .rolA => [.f, .i]
  | .incX => [.f, .i]
  | .setp => [.f, .i]
  | .tcall4 => [.f, .r, .r, .i, .i, .i, .w, .w]
  | .eorAIndX => [.f, .i, .r]
  | .pushX => [.f, .i, .i, .w]
  | .tcall5 => [.f, .r, .r, .i, .i, .i, .w, .w]
  | .eorIndXIndY => [.f, .i, .r, .r, .w]
  | .lsrA => [.f, .i]
  | .movXA => [.f, .i]
  | .clrc => [.f, .i]
  | .tcall6 => [.f, .r, .r, .i, .i, .i, .w, .w]
  | .cmpAIndX => [.f, .i, .r]
  | .pushY => [.f, .i, .i, .w]
  | .ret => [.f, .r, .r, .i, .i]
  | .tcall7 => [.f, .r, .r, .i, .i, .i, .w, .w]
  | .cmpIndXIndY => [.f, .i, .r, .r, .i]
  | .rorA => [.f, .i]
  | .movAX => [.f, .i]
  | .reti => [.f, .r, .r, .r, .i, .i]
  | .setc => [.f, .i]
  | .tcall8 => [.f, .r, .r, .i, .i, .i, .w, .w]
  | .adcAIndX => [.f, .i, .r]
  | .popPsw => [.f, .i, .i, .r]
  | .tcall9 => [.f, .r, .r, .i, .i, .i, .w, .w]
  | .adcIndXIndY => [.f, .i, .r, .r, .w]
  | .decA => [.f, .i]
  | .movXSP => [.f, .i]
  | .divAXY => [.f, .i, .i, .i, .i, .i, .i, .i, .i, .i, .i, .i]
  | .xcn => [.f, .i, .i, .i, .i]
  | .ei => [.f, .i, .i]
  | .tcall10 => [.f, .r, .r, .i, .i, .i, .w, .w]
  | .sbcAIndX => [.f, .i, .r]
  | .popA => [.f, .i, .i, .r]
  | .movIndXIncA => [.f, .i, .i, .w]
  | .tcall11 => [.f, .r, .r, .i, .i, .i, .w, .w]
  | .sbcIndXIndY => [.f, .i, .r, .r, .w]
  | .incA => [.f, .i]
  | .movSPX => [.f, .i]
  | .das => [.f, .i, .i]
  | .movAIndXInc => [.f, .i, .r, .i]
  | .di => [.f, .i, .i]
  | .tcall12 => [.f, .r, .r, .i, .i, .i, .w, .w]
  | .movIndXA => [.f, .i, .d, .w]
  | .popX => [.f, .i, .i, .r]
  | .mulAX => [.f, .i, .i, .i, .i, .i, .i, .i, .i]
  | .tcall13 => [.f, .r, .r, .i, .i, .i, .w, .w]
  | .decY => [.f, .i]
  | .movAY => [.f, .i]
  | .daa => [.f, .i, .i]
  | .clrv => [.f, .i]
  | .tcall14 => [.f, .r, .r, .i, .i, .i, .w, .w]
  | .movAIndX => [.f, .i, .r]
  | .notc => [.f, .i, .i]
  | .popY => [.f, .i, .i, .r]
  | .sleep => [.f, .i, .i]
  | .tcall15 => [.f, .r, .r, .i, .i, .i, .w, .w]
  | .incY => [.f, .i]
  | .movYA => [.f, .i]
  | .stop => [.f, .i, .i]

/-- The 28 conditional branches, whose cost depends on data (R390). -/
def conditionalBranch : Instr → Bool
  | .set1b0 _ => false
  | .bbs0 _ _ => true
  | .orADp _ => false
  | .orAAbs _ => false
  | .orAIdxInd _ => false
  | .orAImm _ => false
  | .orDpDp _ _ => false
  | .or1CBit _ _ => false
  | .aslDp _ => false
  | .aslAbs _ => false
  | .tset1Abs _ => false
  | .bpl _ => true
  | .clr1b0 _ => false
  | .bbc0 _ _ => true
  | .orADpX _ => false
  | .orAAbsX _ => false
  | .orAAbsY _ => false
  | .orAIndIdx _ => false
  | .orDpImm _ _ => false
  | .decwDp _ => false
  | .aslDpX _ => false
  | .cmpXAbs _ => false
  | .jmpAbsXInd _ => false
  | .set1b1 _ => false
  | .bbs1 _ _ => true
  | .andADp _ => false
  | .andAAbs _ => false
  | .andAIdxInd _ => false
  | .andAImm _ => false
  | .andDpDp _ _ => false
  | .or1CNotBit _ _ => false
  | .rolDp _ => false
  | .rolAbs _ => false
  | .cbneDp _ _ => true
  | .bra _ => false
  | .bmi _ => true
  | .clr1b1 _ => false
  | .bbc1 _ _ => true
  | .andADpX _ => false
  | .andAAbsX _ => false
  | .andAAbsY _ => false
  | .andAIndIdx _ => false
  | .andDpImm _ _ => false
  | .incwDp _ => false
  | .rolDpX _ => false
  | .cmpXDp _ => false
  | .call _ => false
  | .set1b2 _ => false
  | .bbs2 _ _ => true
  | .eorADp _ => false
  | .eorAAbs _ => false
  | .eorAIdxInd _ => false
  | .eorAImm _ => false
  | .eorDpDp _ _ => false
  | .and1CBit _ _ => false
  | .lsrDp _ => false
  | .lsrAbs _ => false
  | .tclr1Abs _ => false
  | .pcall _ => false
  | .bvc _ => true
  | .clr1b2 _ => false
  | .bbc2 _ _ => true
  | .eorADpX _ => false
  | .eorAAbsX _ => false
  | .eorAAbsY _ => false
  | .eorAIndIdx _ => false
  | .eorDpImm _ _ => false
  | .cmpwAXDp _ => false
  | .lsrDpX _ => false
  | .cmpYAbs _ => false
  | .jmpAbs _ => false
  | .set1b3 _ => false
  | .bbs3 _ _ => true
  | .cmpADp _ => false
  | .cmpAAbs _ => false
  | .cmpAIdxInd _ => false
  | .cmpAImm _ => false
  | .cmpDpDp _ _ => false
  | .and1CNotBit _ _ => false
  | .rorDp _ => false
  | .rorAbs _ => false
  | .dbnzDp _ _ => true
  | .bvs _ => true
  | .clr1b3 _ => false
  | .bbc3 _ _ => true
  | .cmpADpX _ => false
  | .cmpAAbsX _ => false
  | .cmpAAbsY _ => false
  | .cmpAIndIdx _ => false
  | .cmpDpImm _ _ => false
  | .addwAXDp _ => false
  | .rorDpX _ => false
  | .cmpYDp _ => false
  | .set1b4 _ => false
  | .bbs4 _ _ => true
  | .adcADp _ => false
  | .adcAAbs _ => false
  | .adcAIdxInd _ => false
  | .adcAImm _ => false
  | .adcDpDp _ _ => false
  | .eor1CBit _ _ => false
  | .decDp _ => false
  | .decAbs _ => false
  | .movYImm _ => false
  | .movDpImm _ _ => false
  | .bcc _ => true
  | .clr1b4 _ => false
  | .bbc4 _ _ => true
  | .adcADpX _ => false
  | .adcAAbsX _ => false
  | .adcAAbsY _ => false
  | .adcAIndIdx _ => false
  | .adcDpImm _ _ => false
  | .subwAXDp _ => false
  | .decDpX _ => false
  | .set1b5 _ => false
  | .bbs5 _ _ => true
  | .sbcADp _ => false
  | .sbcAAbs _ => false
  | .sbcAIdxInd _ => false
  | .sbcAImm _ => false
  | .sbcDpDp _ _ => false
  | .mov1CBit _ _ => false
  | .incDp _ => false
  | .incAbs _ => false
  | .cmpYImm _ => false
  | .bcs _ => true
  | .clr1b5 _ => false
  | .bbc5 _ _ => true
  | .sbcADpX _ => false
  | .sbcAAbsX _ => false
  | .sbcAAbsY _ => false
  | .sbcAIndIdx _ => false
  | .sbcDpImm _ _ => false
  | .movwAXDp _ => false
  | .incDpX _ => false
  | .set1b6 _ => false
  | .bbs6 _ _ => true
  | .movDpA _ => false
  | .movAbsA _ => false
  | .movIdxIndA _ => false
  | .cmpXImm _ => false
  | .movAbsX _ => false
  | .mov1BitC _ _ => false
  | .movDpY _ => false
  | .movAbsY _ => false
  | .movXImm _ => false
  | .bne _ => true
  | .clr1b6 _ => false
  | .bbc6 _ _ => true
  | .movDpXA _ => false
  | .movAbsXA _ => false
  | .movAbsYA _ => false
  | .movIndIdxA _ => false
  | .movDpX _ => false
  | .movDpYX _ => false
  | .movwDpAX _ => false
  | .movDpXY _ => false
  | .cbneDpX _ _ => true
  | .set1b7 _ => false
  | .bbs7 _ _ => true
  | .movADp _ => false
  | .movAAbs _ => false
  | .movAIdxInd _ => false
  | .movAImm _ => false
  | .movXAbs _ => false
  | .not1Bit _ _ => false
  | .movYDp _ => false
  | .movYAbs _ => false
  | .beq _ => true
  | .clr1b7 _ => false
  | .bbc7 _ _ => true
  | .movADpX _ => false
  | .movAAbsX _ => false
  | .movAAbsY _ => false
  | .movAIndIdx _ => false
  | .movXDp _ => false
  | .movXDpY _ => false
  | .movDpDp _ _ => false
  | .movYDpX _ => false
  | .dbnzY _ => true
  | .nop => false
  | .tcall0 => false
  | .orAIndX => false
  | .pushPsw => false
  | .brk => false
  | .tcall1 => false
  | .orIndXIndY => false
  | .aslA => false
  | .decX => false
  | .clrp => false
  | .tcall2 => false
  | .andAIndX => false
  | .pushA => false
  | .tcall3 => false
  | .andIndXIndY => false
  | .rolA => false
  | .incX => false
  | .setp => false
  | .tcall4 => false
  | .eorAIndX => false
  | .pushX => false
  | .tcall5 => false
  | .eorIndXIndY => false
  | .lsrA => false
  | .movXA => false
  | .clrc => false
  | .tcall6 => false
  | .cmpAIndX => false
  | .pushY => false
  | .ret => false
  | .tcall7 => false
  | .cmpIndXIndY => false
  | .rorA => false
  | .movAX => false
  | .reti => false
  | .setc => false
  | .tcall8 => false
  | .adcAIndX => false
  | .popPsw => false
  | .tcall9 => false
  | .adcIndXIndY => false
  | .decA => false
  | .movXSP => false
  | .divAXY => false
  | .xcn => false
  | .ei => false
  | .tcall10 => false
  | .sbcAIndX => false
  | .popA => false
  | .movIndXIncA => false
  | .tcall11 => false
  | .sbcIndXIndY => false
  | .incA => false
  | .movSPX => false
  | .das => false
  | .movAIndXInc => false
  | .di => false
  | .tcall12 => false
  | .movIndXA => false
  | .popX => false
  | .mulAX => false
  | .tcall13 => false
  | .decY => false
  | .movAY => false
  | .daa => false
  | .clrv => false
  | .tcall14 => false
  | .movAIndX => false
  | .notc => false
  | .popY => false
  | .sleep => false
  | .tcall15 => false
  | .incY => false
  | .movYA => false
  | .stop => false

end Sys2Proof.Machine
end

