-- ==== Sys2Proof/Safety.lean ====
section
/-! DEFINITION. The terms in which the claims speak: the registers a program or the host can see, what it means that an
instruction runs to a result, the invariant of a sound state, and which states differ only where nothing looks. -/

namespace Sys2Proof.Machine

/-! ### What an instruction's run says -/

/-- The registers, the status word and HALT: the CPU State of R20 without the cycle counter and the dead latches. -/
structure Registers where
  a : Byte
  x : Byte
  y : Byte
  sp : Byte
  pc : Word
  psw : Psw
  halt : Bool
  deriving DecidableEq, Repr

/-- The registers of a state. -/
def State.registers (s : State) : Registers := ⟨s.a, s.x, s.y, s.sp, s.pc, s.psw, s.halt⟩

/-- The instruction runs from the state to a next state, with these registers, having spent one cycle on each of these
bus events in this order, and leaving memory to read as `mem`. The bus's answers to come are not touched. -/
def Runs (i : Instr) (s : State) (regs : Registers) (events : List BusEvent) (mem : Word → Byte) : Prop :=
  ∃ t, exec i s = .next t ∧ t.registers = regs ∧ t.trace = events.reverse ++ s.trace ∧
    t.cycles = s.cycles + events.length ∧ (∀ b, t.memAt b = mem b) ∧ t.oracle = s.oracle

/-! ### Loads and combinations: a byte is read (or given) and the registers change as `g` says

`g` takes the registers before the instruction and the operand byte; PC then moves past the instruction. -/

/-- `#imm` (R121): `F F`. -/
def TakesImmediate (op : Byte) (mk : Byte → Instr) (g : Registers → Byte → Registers) : Prop :=
  ∀ (s : State) (imm : Byte),
    Runs (mk imm) s { g s.registers imm with pc := s.pc + 2 }
      [.fetch s.pc op, .fetch (s.pc + 1) imm] s.memAt

/-- `dp` (R122): `F F R`. -/
def TakesDirect (op : Byte) (mk : Byte → Instr) (g : Registers → Byte → Registers) : Prop :=
  ∀ (s : State) (o : Byte),
    let ea := s.dp o
    let v := s.busAt 2 ea
    Runs (mk o) s { g s.registers v with pc := s.pc + 2 }
      [.fetch s.pc op, .fetch (s.pc + 1) o, .read ea v] s.memAt

/-- `dp+X` and `dp+Y` (R123): `F F I R`. -/
def TakesDirectIndexed (index : State → Byte) (op : Byte) (mk : Byte → Instr)
    (g : Registers → Byte → Registers) : Prop :=
  ∀ (s : State) (o : Byte),
    let ea := s.dp (o + index s)
    let v := s.busAt 3 ea
    Runs (mk o) s { g s.registers v with pc := s.pc + 2 }
      [.fetch s.pc op, .fetch (s.pc + 1) o, .idle, .read ea v] s.memAt

/-- `!abs` (R124): `F F F R`. -/
def TakesAbsolute (op : Byte) (mk : Word → Instr) (g : Registers → Byte → Registers) : Prop :=
  ∀ (s : State) (addr : Word),
    let v := s.busAt 3 addr
    Runs (mk addr) s { g s.registers v with pc := s.pc + 3 }
      [.fetch s.pc op, .fetch (s.pc + 1) (wordLow addr), .fetch (s.pc + 2) (wordHigh addr), .read addr v] s.memAt

/-- `!abs+X` and `!abs+Y` (R125): `F F F I R`. -/
def TakesAbsoluteIndexed (index : State → Byte) (op : Byte) (mk : Word → Instr)
    (g : Registers → Byte → Registers) : Prop :=
  ∀ (s : State) (addr : Word),
    let ea := addr + (index s).setWidth 16
    let v := s.busAt 4 ea
    Runs (mk addr) s { g s.registers v with pc := s.pc + 3 }
      [.fetch s.pc op, .fetch (s.pc + 1) (wordLow addr), .fetch (s.pc + 2) (wordHigh addr), .idle, .read ea v]
      s.memAt

/-- `[dp+X]` (R126): `F F I R R R`. -/
def TakesIndexedIndirect (op : Byte) (mk : Byte → Instr) (g : Registers → Byte → Registers) : Prop :=
  ∀ (s : State) (o : Byte),
    let p := o + s.x
    let lo := s.busAt 3 (s.dp p)
    let hi := s.busAt 4 (s.dp (p + 1))
    let v := s.busAt 5 (wordOf hi lo)
    Runs (mk o) s { g s.registers v with pc := s.pc + 2 }
      [.fetch s.pc op, .fetch (s.pc + 1) o, .idle, .read (s.dp p) lo, .read (s.dp (p + 1)) hi,
        .read (wordOf hi lo) v] s.memAt

/-- `[dp]+Y` in a load (R127): `F F I R R R`. -/
def TakesIndirectIndexed (op : Byte) (mk : Byte → Instr) (g : Registers → Byte → Registers) : Prop :=
  ∀ (s : State) (o : Byte),
    let lo := s.busAt 3 (s.dp o)
    let hi := s.busAt 4 (s.dp (o + 1))
    let ea := wordOf hi lo + s.y.setWidth 16
    let v := s.busAt 5 ea
    Runs (mk o) s { g s.registers v with pc := s.pc + 2 }
      [.fetch s.pc op, .fetch (s.pc + 1) o, .idle, .read (s.dp o) lo, .read (s.dp (o + 1)) hi, .read ea v] s.memAt

/-- `(X)` (R128): `F I R`. -/
def TakesIndirectX (op : Byte) (i : Instr) (g : Registers → Byte → Registers) : Prop :=
  ∀ s : State,
    let ea := s.dp s.x
    let v := s.busAt 2 ea
    Runs i s { g s.registers v with pc := s.pc + 1 } [.fetch s.pc op, .idle, .read ea v] s.memAt

/-- The nine accumulator forms of one operation. Even opcode row `row`: `dp`, `!abs`, `(X)`, `[dp+X]`, `#imm` in
columns 4 to 8; the next row: `dp+X`, `!abs+X`, `!abs+Y`, `[dp]+Y` in columns 4 to 7 (R85 (c)). -/
def AccumulatorForms (row : Byte) (imm dp dpX idxInd indIdx : Byte → Instr) (abs absX absY : Word → Instr)
    (indX : Instr) (g : Registers → Byte → Registers) : Prop :=
  TakesDirect (row + 0x04) dp g ∧ TakesAbsolute (row + 0x05) abs g ∧ TakesIndirectX (row + 0x06) indX g ∧
  TakesIndexedIndirect (row + 0x07) idxInd g ∧ TakesImmediate (row + 0x08) imm g ∧
  TakesDirectIndexed State.x (row + 0x14) dpX g ∧ TakesAbsoluteIndexed State.x (row + 0x15) absX g ∧
  TakesAbsoluteIndexed State.y (row + 0x16) absY g ∧ TakesIndirectIndexed (row + 0x17) indIdx g

/-- `A <- f(A, v)`. -/
def combineIntoA (f : Byte → Byte → Psw → Alu8) (r : Registers) (v : Byte) : Registers :=
  { r with a := (f r.a v r.psw).value, psw := (f r.a v r.psw).psw }

/-- `CMP(reg, v)`: the flags alone. -/
def compareWith (reg : Registers → Byte) (r : Registers) (v : Byte) : Registers :=
  { r with psw := aluCmp (reg r) v r.psw }

/-- `A <- v; SetNZ8(A)`, and the same for X and Y. -/
def loadIntoA (r : Registers) (v : Byte) : Registers := { r with a := v, psw := r.psw.setNZ8 v }
def loadIntoX (r : Registers) (v : Byte) : Registers := { r with x := v, psw := r.psw.setNZ8 v }
def loadIntoY (r : Registers) (v : Byte) : Registers := { r with y := v, psw := r.psw.setNZ8 v }

/-! ### Stores: a discarded read of the destination, then the write of a register; no register but PC changes -/

/-- `dp` (R122): `F F D W`. -/
def StoresDirect (op : Byte) (mk : Byte → Instr) (reg : State → Byte) : Prop :=
  ∀ (s : State) (o : Byte),
    let ea := s.dp o
    Runs (mk o) s { s.registers with pc := s.pc + 2 }
      [.fetch s.pc op, .fetch (s.pc + 1) o, .discard ea (s.busAt 2 ea), .write ea (reg s)]
      (Function.update s.memAt ea (reg s))

/-- `dp+X` and `dp+Y` (R123): `F F I D W`. -/
def StoresDirectIndexed (index : State → Byte) (op : Byte) (mk : Byte → Instr) (reg : State → Byte) : Prop :=
  ∀ (s : State) (o : Byte),
    let ea := s.dp (o + index s)
    Runs (mk o) s { s.registers with pc := s.pc + 2 }
      [.fetch s.pc op, .fetch (s.pc + 1) o, .idle, .discard ea (s.busAt 3 ea), .write ea (reg s)]
      (Function.update s.memAt ea (reg s))

/-- `!abs` (R124): `F F F D W`. -/
def StoresAbsolute (op : Byte) (mk : Word → Instr) (reg : State → Byte) : Prop :=
  ∀ (s : State) (addr : Word),
    Runs (mk addr) s { s.registers with pc := s.pc + 3 }
      [.fetch s.pc op, .fetch (s.pc + 1) (wordLow addr), .fetch (s.pc + 2) (wordHigh addr),
        .discard addr (s.busAt 3 addr), .write addr (reg s)]
      (Function.update s.memAt addr (reg s))

/-- `!abs+X` and `!abs+Y` (R125): `F F F I D W`. -/
def StoresAbsoluteIndexed (index : State → Byte) (op : Byte) (mk : Word → Instr) (reg : State → Byte) : Prop :=
  ∀ (s : State) (addr : Word),
    let ea := addr + (index s).setWidth 16
    Runs (mk addr) s { s.registers with pc := s.pc + 3 }
      [.fetch s.pc op, .fetch (s.pc + 1) (wordLow addr), .fetch (s.pc + 2) (wordHigh addr), .idle,
        .discard ea (s.busAt 4 ea), .write ea (reg s)]
      (Function.update s.memAt ea (reg s))

/-! ### Read-modify-write: the read, then the write of `f` of it to the same address (R290) -/

/-- `dp` (R122): `F F R W`. -/
def ModifiesDirect (op : Byte) (mk : Byte → Instr) (f : Byte → Psw → Alu8) : Prop :=
  ∀ (s : State) (o : Byte),
    let ea := s.dp o
    let v := s.busAt 2 ea
    let res := f v s.psw
    Runs (mk o) s { s.registers with pc := s.pc + 2, psw := res.psw }
      [.fetch s.pc op, .fetch (s.pc + 1) o, .read ea v, .write ea res.value]
      (Function.update s.memAt ea res.value)

/-- `dp+X` (R123): `F F I R W`. -/
def ModifiesDirectX (op : Byte) (mk : Byte → Instr) (f : Byte → Psw → Alu8) : Prop :=
  ∀ (s : State) (o : Byte),
    let ea := s.dp (o + s.x)
    let v := s.busAt 3 ea
    let res := f v s.psw
    Runs (mk o) s { s.registers with pc := s.pc + 2, psw := res.psw }
      [.fetch s.pc op, .fetch (s.pc + 1) o, .idle, .read ea v, .write ea res.value]
      (Function.update s.memAt ea res.value)

/-- `!abs` (R124): `F F F R W`. -/
def ModifiesAbsolute (op : Byte) (mk : Word → Instr) (f : Byte → Psw → Alu8) : Prop :=
  ∀ (s : State) (addr : Word),
    let v := s.busAt 3 addr
    let res := f v s.psw
    Runs (mk addr) s { s.registers with pc := s.pc + 3, psw := res.psw }
      [.fetch s.pc op, .fetch (s.pc + 1) (wordLow addr), .fetch (s.pc + 2) (wordHigh addr), .read addr v,
        .write addr res.value]
      (Function.update s.memAt addr res.value)

/-- The accumulator form: `F I`. -/
def ModifiesA (op : Byte) (i : Instr) (f : Byte → Psw → Alu8) : Prop :=
  ∀ s : State,
    Runs i s { s.registers with pc := s.pc + 1, a := (f s.a s.psw).value, psw := (f s.a s.psw).psw }
      [.fetch s.pc op, .idle] s.memAt

/-- The four forms of a shift, rotate, increment or decrement: columns B and C of an even opcode row and of the next
(R85 (e)). -/
def ModifyForms (row : Byte) (dp dpX : Byte → Instr) (abs : Word → Instr) (acc : Instr) (f : Byte → Psw → Alu8) :
    Prop :=
  ModifiesDirect (row + 0x0B) dp f ∧ ModifiesAbsolute (row + 0x0C) abs f ∧ ModifiesDirectX (row + 0x1B) dpX f ∧
  ModifiesA (row + 0x1C) acc f

/-! ### Two-operand forms with a memory destination (R75, R76, R128) -/

/-- `OP dd, ds`, `OP dp, #imm` and `OP (X), (Y)`: column 9 of an even opcode row, columns 8 and 9 of the next. -/
def MemoryDestinationForms (row : Byte) (dpDp dpImm : Byte → Byte → Instr) (indXIndY : Instr)
    (f : Byte → Byte → Psw → Alu8) : Prop :=
  (∀ (s : State) (dst src : Byte),
    let v := s.busAt 2 (s.dp src)
    let t := s.busAt 4 (s.dp dst)
    let res := f t v s.psw
    Runs (dpDp dst src) s { s.registers with pc := s.pc + 3, psw := res.psw }
      [.fetch s.pc (row + 0x09), .fetch (s.pc + 1) src, .read (s.dp src) v, .fetch (s.pc + 2) dst,
        .read (s.dp dst) t, .write (s.dp dst) res.value]
      (Function.update s.memAt (s.dp dst) res.value)) ∧
  (∀ (s : State) (dst imm : Byte),
    let t := s.busAt 3 (s.dp dst)
    let res := f t imm s.psw
    Runs (dpImm dst imm) s { s.registers with pc := s.pc + 3, psw := res.psw }
      [.fetch s.pc (row + 0x18), .fetch (s.pc + 1) imm, .fetch (s.pc + 2) dst, .read (s.dp dst) t,
        .write (s.dp dst) res.value]
      (Function.update s.memAt (s.dp dst) res.value)) ∧
  (∀ s : State,
    let v := s.busAt 2 (s.dp s.y)
    let t := s.busAt 3 (s.dp s.x)
    let res := f t v s.psw
    Runs indXIndY s { s.registers with pc := s.pc + 1, psw := res.psw }
      [.fetch s.pc (row + 0x19), .idle, .read (s.dp s.y) v, .read (s.dp s.x) t, .write (s.dp s.x) res.value]
      (Function.update s.memAt (s.dp s.x) res.value))

/-! ### Branches and one-byte instructions -/

/-- A 2-byte relative branch (R130): `F F`, and two internal cycles more when it is taken. -/
def BranchesWhen (op : Byte) (mk : Byte → Instr) (taken : Psw → Bool) : Prop :=
  ∀ (s : State) (r : Byte),
    if taken s.psw then
      Runs (mk r) s { s.registers with pc := s.pc + 2 + r.signExtend 16 }
        [.fetch s.pc op, .fetch (s.pc + 1) r, .idle, .idle] s.memAt
    else
      Runs (mk r) s { s.registers with pc := s.pc + 2 } [.fetch s.pc op, .fetch (s.pc + 1) r] s.memAt

/-- A 1-byte instruction that spends `n` internal cycles and changes the registers as `g` says. -/
def RunsInside (op : Byte) (n : Nat) (i : Instr) (g : Registers → Registers) : Prop :=
  ∀ s : State,
    Runs i s { g s.registers with pc := s.pc + 1 } (.fetch s.pc op :: List.replicate n .idle) s.memAt

/-! ### The invariant of a sound state, and the bus events of a step -/

/-- Memory is in canonical form and the trace holds one event for every cycle (R7, R42). -/
def State.Sound (s : State) : Prop := Memory.wf s.mem ∧ s.trace.length = s.cycles

/-- The events are a true account of the bus from cycle `n` and memory `m` on, and leave memory `last`: every byte read
is the byte the bus answers at that cycle, and a write is seen by every later read (R51, R57, R59). -/
def Accounts (oracle : List (Nat × Byte)) : Nat → Memory → List BusEvent → Memory → Prop
  | _, m, [], last => m = last
  | n, m, .fetch a v :: rest, last => v = busAnswer oracle n m a ∧ Accounts oracle (n + 1) m rest last
  | n, m, .read a v :: rest, last => v = busAnswer oracle n m a ∧ Accounts oracle (n + 1) m rest last
  | n, m, .discard a v :: rest, last => v = busAnswer oracle n m a ∧ Accounts oracle (n + 1) m rest last
  | n, m, .write a v :: rest, last => Accounts oracle (n + 1) (memStore m a.toNat v) rest last
  | n, m, .idle :: rest, last => Accounts oracle (n + 1) m rest last

/-- The fetches among some events, as (address, byte), in their order. -/
def fetchesOf : List BusEvent → List (Word × Byte)
  | [] => []
  | .fetch a v :: rest => (a, v) :: fetchesOf rest
  | .read _ _ :: rest => fetchesOf rest
  | .discard _ _ :: rest => fetchesOf rest
  | .write _ _ :: rest => fetchesOf rest
  | .idle :: rest => fetchesOf rest

/-- Bytes paired with consecutive addresses from `pc` on, wrapping at 16 bits (R70). -/
def bytesAt (pc : Word) : List Byte → List (Word × Byte)
  | [] => []
  | v :: rest => (pc, v) :: bytesAt (pc + 1) rest

/-! ### States that differ only where nothing looks -/

/-- The two states differ at most in the operand latches (R43). -/
def State.SameButLatches (s t : State) : Prop :=
  t = { s with latch0 := t.latch0, latch1 := t.latch1, latch2 := t.latch2 }

/-- The two states differ at most in the I flag (R36). -/
def State.SameButI (s t : State) : Prop := t = { s with psw := { s.psw with i := t.psw.i } }

/-- The two states differ at most in what the trace recorded before. -/
def State.SameButTrace (s t : State) : Prop := t = { s with trace := t.trace }

/-! ### Which instructions a rule of the prose speaks of -/

/-- The instructions of 43_control_flow.md (R190): those whose opcode_table.json row is of the control family. -/
def controlFlow : Instr → Bool
  | .set1b0 _ => false
  | .bbs0 _ _ => true
  | .orADp _ => false
  | .orAAbs _ => false
  | .orAIdxInd _ => false
  | .orAImm _ => false
  | .orDpDp _ _ => false
  | .or1CBit _ _ => false
  | .aslDp _ => false
  | .aslAbs _ => false
  | .tset1Abs _ => false
  | .bpl _ => true
  | .clr1b0 _ => false
  | .bbc0 _ _ => true
  | .orADpX _ => false
  | .orAAbsX _ => false
  | .orAAbsY _ => false
  | .orAIndIdx _ => false
  | .orDpImm _ _ => false
  | .decwDp _ => false
  | .aslDpX _ => false
  | .cmpXAbs _ => false
  | .jmpAbsXInd _ => true
  | .set1b1 _ => false
  | .bbs1 _ _ => true
  | .andADp _ => false
  | .andAAbs _ => false
  | .andAIdxInd _ => false
  | .andAImm _ => false
  | .andDpDp _ _ => false
  | .or1CNotBit _ _ => false
  | .rolDp _ => false
  | .rolAbs _ => false
  | .cbneDp _ _ => true
  | .bra _ => true
  | .bmi _ => true
  | .clr1b1 _ => false
  | .bbc1 _ _ => true
  | .andADpX _ => false
  | .andAAbsX _ => false
  | .andAAbsY _ => false
  | .andAIndIdx _ => false
  | .andDpImm _ _ => false
  | .incwDp _ => false
  | .rolDpX _ => false
  | .cmpXDp _ => false
  | .call _ => true
  | .set1b2 _ => false
  | .bbs2 _ _ => true
  | .eorADp _ => false
  | .eorAAbs _ => false
  | .eorAIdxInd _ => false
  | .eorAImm _ => false
  | .eorDpDp _ _ => false
  | .and1CBit _ _ => false
  | .lsrDp _ => false
  | .lsrAbs _ => false
  | .tclr1Abs _ => false
  | .pcall _ => true
  | .bvc _ => true
  | .clr1b2 _ => false
  | .bbc2 _ _ => true
  | .eorADpX _ => false
  | .eorAAbsX _ => false
  | .eorAAbsY _ => false
  | .eorAIndIdx _ => false
  | .eorDpImm _ _ => false
  | .cmpwAXDp _ => false
  | .lsrDpX _ => false
  | .cmpYAbs _ => false
  | .jmpAbs _ => true
  | .set1b3 _ => false
  | .bbs3 _ _ => true
  | .cmpADp _ => false
  | .cmpAAbs _ => false
  | .cmpAIdxInd _ => false
  | .cmpAImm _ => false
  | .cmpDpDp _ _ => false
  | .and1CNotBit _ _ => false
  | .rorDp _ => false
  | .rorAbs _ => false
  | .dbnzDp _ _ => true
  | .bvs _ => true
  | .clr1b3 _ => false
  | .bbc3 _ _ => true
  | .cmpADpX _ => false
  | .cmpAAbsX _ => false
  | .cmpAAbsY _ => false
  | .cmpAIndIdx _ => false
  | .cmpDpImm _ _ => false
  | .addwAXDp _ => false
  | .rorDpX _ => false
  | .cmpYDp _ => false
  | .set1b4 _ => false
  | .bbs4 _ _ => true
  | .adcADp _ => false
  | .adcAAbs _ => false
  | .adcAIdxInd _ => false
  | .adcAImm _ => false
  | .adcDpDp _ _ => false
  | .eor1CBit _ _ => false
  | .decDp _ => false
  | .decAbs _ => false
  | .movYImm _ => false
  | .movDpImm _ _ => false
  | .bcc _ => true
  | .clr1b4 _ => false
  | .bbc4 _ _ => true
  | .adcADpX _ => false
  | .adcAAbsX _ => false
  | .adcAAbsY _ => false
  | .adcAIndIdx _ => false
  | .adcDpImm _ _ => false
  | .subwAXDp _ => false
  | .decDpX _ => false
  | .set1b5 _ => false
  | .bbs5 _ _ => true
  | .sbcADp _ => false
  | .sbcAAbs _ => false
  | .sbcAIdxInd _ => false
  | .sbcAImm _ => false
  | .sbcDpDp _ _ => false
  | .mov1CBit _ _ => false
  | .incDp _ => false
  | .incAbs _ => false
  | .cmpYImm _ => false
  | .bcs _ => true
  | .clr1b5 _ => false
  | .bbc5 _ _ => true
  | .sbcADpX _ => false
  | .sbcAAbsX _ => false
  | .sbcAAbsY _ => false
  | .sbcAIndIdx _ => false
  | .sbcDpImm _ _ => false
  | .movwAXDp _ => false
  | .incDpX _ => false
  | .set1b6 _ => false
  | .bbs6 _ _ => true
  | .movDpA _ => false
  | .movAbsA _ => false
  | .movIdxIndA _ => false
  | .cmpXImm _ => false
  | .movAbsX _ => false
  | .mov1BitC _ _ => false
  | .movDpY _ => false
  | .movAbsY _ => false
  | .movXImm _ => false
  | .bne _ => true
  | .clr1b6 _ => false
  | .bbc6 _ _ => true
  | .movDpXA _ => false
  | .movAbsXA _ => false
  | .movAbsYA _ => false
  | .movIndIdxA _ => false
  | .movDpX _ => false
  | .movDpYX _ => false
  | .movwDpAX _ => false
  | .movDpXY _ => false
  | .cbneDpX _ _ => true
  | .set1b7 _ => false
  | .bbs7 _ _ => true
  | .movADp _ => false
  | .movAAbs _ => false
  | .movAIdxInd _ => false
  | .movAImm _ => false
  | .movXAbs _ => false
  | .not1Bit _ _ => false
  | .movYDp _ => false
  | .movYAbs _ => false
  | .beq _ => true
  | .clr1b7 _ => false
  | .bbc7 _ _ => true
  | .movADpX _ => false
  | .movAAbsX _ => false
  | .movAAbsY _ => false
  | .movAIndIdx _ => false
  | .movXDp _ => false
  | .movXDpY _ => false
  | .movDpDp _ _ => false
  | .movYDpX _ => false
  | .dbnzY _ => true
  | .nop => false
  | .tcall0 => true
  | .orAIndX => false
  | .pushPsw => false
  | .brk => true
  | .tcall1 => true
  | .orIndXIndY => false
  | .aslA => false
  | .decX => false
  | .clrp => false
  | .tcall2 => true
  | .andAIndX => false
  | .pushA => false
  | .tcall3 => true
  | .andIndXIndY => false
  | .rolA => false
  | .incX => false
  | .setp => false
  | .tcall4 => true
  | .eorAIndX => false
  | .pushX => false
  | .tcall5 => true
  | .eorIndXIndY => false
  | .lsrA => false
  | .movXA => false
  | .clrc => false
  | .tcall6 => true
  | .cmpAIndX => false
  | .pushY => false
  | .ret => true
  | .tcall7 => true
  | .cmpIndXIndY => false
  | .rorA => false
  | .movAX => false
  | .reti => true
  | .setc => false
  | .tcall8 => true
  | .adcAIndX => false
  | .popPsw => false
  | .tcall9 => true
  | .adcIndXIndY => false
  | .decA => false
  | .movXSP => false
  | .divAXY => false
  | .xcn => false
  | .ei => false
  | .tcall10 => true
  | .sbcAIndX => false
  | .popA => false
  | .movIndXIncA => false
  | .tcall11 => true
  | .sbcIndXIndY => false
  | .incA => false
  | .movSPX => false
  | .das => false
  | .movAIndXInc => false
  | .di => false
  | .tcall12 => true
  | .movIndXA => false
  | .popX => false
  | .mulAX => false
  | .tcall13 => true
  | .decY => false
  | .movAY => false
  | .daa => false
  | .clrv => false
  | .tcall14 => true
  | .movAIndX => false
  | .notc => false
  | .popY => false
  | .sleep => false
  | .tcall15 => true
  | .incY => false
  | .movYA => false
  | .stop => false

/-- The instructions of 44_read_operate.md (R220). -/
def readOperate : Instr → Bool
  | .set1b0 _ => false
  | .bbs0 _ _ => false
  | .orADp _ => true
  | .orAAbs _ => true
  | .orAIdxInd _ => true
  | .orAImm _ => true
  | .orDpDp _ _ => false
  | .or1CBit _ _ => true
  | .aslDp _ => false
  | .aslAbs _ => false
  | .tset1Abs _ => false
  | .bpl _ => false
  | .clr1b0 _ => false
  | .bbc0 _ _ => false
  | .orADpX _ => true
  | .orAAbsX _ => true
  | .orAAbsY _ => true
  | .orAIndIdx _ => true
  | .orDpImm _ _ => false
  | .decwDp _ => false
  | .aslDpX _ => false
  | .cmpXAbs _ => true
  | .jmpAbsXInd _ => false
  | .set1b1 _ => false
  | .bbs1 _ _ => false
  | .andADp _ => true
  | .andAAbs _ => true
  | .andAIdxInd _ => true
  | .andAImm _ => true
  | .andDpDp _ _ => false
  | .or1CNotBit _ _ => true
  | .rolDp _ => false
  | .rolAbs _ => false
  | .cbneDp _ _ => false
  | .bra _ => false
  | .bmi _ => false
  | .clr1b1 _ => false
  | .bbc1 _ _ => false
  | .andADpX _ => true
  | .andAAbsX _ => true
  | .andAAbsY _ => true
  | .andAIndIdx _ => true
  | .andDpImm _ _ => false
  | .incwDp _ => false
  | .rolDpX _ => false
  | .cmpXDp _ => true
  | .call _ => false
  | .set1b2 _ => false
  | .bbs2 _ _ => false
  | .eorADp _ => true
  | .eorAAbs _ => true
  | .eorAIdxInd _ => true
  | .eorAImm _ => true
  | .eorDpDp _ _ => false
  | .and1CBit _ _ => true
  | .lsrDp _ => false
  | .lsrAbs _ => false
  | .tclr1Abs _ => false
  | .pcall _ => false
  | .bvc _ => false
  | .clr1b2 _ => false
  | .bbc2 _ _ => false
  | .eorADpX _ => true
  | .eorAAbsX _ => true
  | .eorAAbsY _ => true
  | .eorAIndIdx _ => true
  | .eorDpImm _ _ => false
  | .cmpwAXDp _ => true
  | .lsrDpX _ => false
  | .cmpYAbs _ => true
  | .jmpAbs _ => false
  | .set1b3 _ => false
  | .bbs3 _ _ => false
  | .cmpADp _ => true
  | .cmpAAbs _ => true
  | .cmpAIdxInd _ => true
  | .cmpAImm _ => true
  | .cmpDpDp _ _ => false
  | .and1CNotBit _ _ => true
  | .rorDp _ => false
  | .rorAbs _ => false
  | .dbnzDp _ _ => false
  | .bvs _ => false
  | .clr1b3 _ => false
  | .bbc3 _ _ => false
  | .cmpADpX _ => true
  | .cmpAAbsX _ => true
  | .cmpAAbsY _ => true
  | .cmpAIndIdx _ => true
  | .cmpDpImm _ _ => false
  | .addwAXDp _ => true
  | .rorDpX _ => false
  | .cmpYDp _ => true
  | .set1b4 _ => false
  | .bbs4 _ _ => false
  | .adcADp _ => true
  | .adcAAbs _ => true
  | .adcAIdxInd _ => true
  | .adcAImm _ => true
  | .adcDpDp _ _ => false
  | .eor1CBit _ _ => true
  | .decDp _ => false
  | .decAbs _ => false
  | .movYImm _ => false
  | .movDpImm _ _ => false
  | .bcc _ => false
  | .clr1b4 _ => false
  | .bbc4 _ _ => false
  | .adcADpX _ => true
  | .adcAAbsX _ => true
  | .adcAAbsY _ => true
  | .adcAIndIdx _ => true
  | .adcDpImm _ _ => false
  | .subwAXDp _ => true
  | .decDpX _ => false
  | .set1b5 _ => false
  | .bbs5 _ _ => false
  | .sbcADp _ => true
  | .sbcAAbs _ => true
  | .sbcAIdxInd _ => true
  | .sbcAImm _ => true
  | .sbcDpDp _ _ => false
  | .mov1CBit _ _ => false
  | .incDp _ => false
  | .incAbs _ => false
  | .cmpYImm _ => true
  | .bcs _ => false
  | .clr1b5 _ => false
  | .bbc5 _ _ => false
  | .sbcADpX _ => true
  | .sbcAAbsX _ => true
  | .sbcAAbsY _ => true
  | .sbcAIndIdx _ => true
  | .sbcDpImm _ _ => false
  | .movwAXDp _ => false
  | .incDpX _ => false
  | .set1b6 _ => false
  | .bbs6 _ _ => false
  | .movDpA _ => false
  | .movAbsA _ => false
  | .movIdxIndA _ => false
  | .cmpXImm _ => true
  | .movAbsX _ => false
  | .mov1BitC _ _ => false
  | .movDpY _ => false
  | .movAbsY _ => false
  | .movXImm _ => false
  | .bne _ => false
  | .clr1b6 _ => false
  | .bbc6 _ _ => false
  | .movDpXA _ => false
  | .movAbsXA _ => false
  | .movAbsYA _ => false
  | .movIndIdxA _ => false
  | .movDpX _ => false
  | .movDpYX _ => false
  | .movwDpAX _ => false
  | .movDpXY _ => false
  | .cbneDpX _ _ => false
  | .set1b7 _ => false
  | .bbs7 _ _ => false
  | .movADp _ => false
  | .movAAbs _ => false
  | .movAIdxInd _ => false
  | .movAImm _ => false
  | .movXAbs _ => false
  | .not1Bit _ _ => false
  | .movYDp _ => false
  | .movYAbs _ => false
  | .beq _ => false
  | .clr1b7 _ => false
  | .bbc7 _ _ => false
  | .movADpX _ => false
  | .movAAbsX _ => false
  | .movAAbsY _ => false
  | .movAIndIdx _ => false
  | .movXDp _ => false
  | .movXDpY _ => false
  | .movDpDp _ _ => false
  | .movYDpX _ => false
  | .dbnzY _ => false
  | .nop => false
  | .tcall0 => false
  | .orAIndX => true
  | .pushPsw => false
  | .brk => false
  | .tcall1 => false
  | .orIndXIndY => false
  | .aslA => false
  | .decX => false
  | .clrp => false
  | .tcall2 => false
  | .andAIndX => true
  | .pushA => false
  | .tcall3 => false
  | .andIndXIndY => false
  | .rolA => false
  | .incX => false
  | .setp => false
  | .tcall4 => false
  | .eorAIndX => true
  | .pushX => false
  | .tcall5 => false
  | .eorIndXIndY => false
  | .lsrA => false
  | .movXA => false
  | .clrc => false
  | .tcall6 => false
  | .cmpAIndX => true
  | .pushY => false
  | .ret => false
  | .tcall7 => false
  | .cmpIndXIndY => false
  | .rorA => false
  | .movAX => false
  | .reti => false
  | .setc => false
  | .tcall8 => false
  | .adcAIndX => true
  | .popPsw => false
  | .tcall9 => false
  | .adcIndXIndY => false
  | .decA => false
  | .movXSP => false
  | .divAXY => false
  | .xcn => false
  | .ei => false
  | .tcall10 => false
  | .sbcAIndX => true
  | .popA => false
  | .movIndXIncA => false
  | .tcall11 => false
  | .sbcIndXIndY => false
  | .incA => false
  | .movSPX => false
  | .das => false
  | .movAIndXInc => false
  | .di => false
  | .tcall12 => false
  | .movIndXA => false
  | .popX => false
  | .mulAX => false
  | .tcall13 => false
  | .decY => false
  | .movAY => false
  | .daa => false
  | .clrv => false
  | .tcall14 => false
  | .movAIndX => false
  | .notc => false
  | .popY => false
  | .sleep => false
  | .tcall15 => false
  | .incY => false
  | .movYA => false
  | .stop => false

/-- The instructions whose every data access is at a direct-page address of their operands (R122, R123, R128): the forms
`dp`, `dp+X`, `dp+Y`, `dp.b`, `dd, ds`, `(X)`, `(X)+` and `(Y)`, and no form that goes on through a pointer. -/
def directPageOnly : Instr → Bool
  | .set1b0 _ => true
  | .bbs0 _ _ => true
  | .orADp _ => true
  | .orAAbs _ => false
  | .orAIdxInd _ => false
  | .orAImm _ => false
  | .orDpDp _ _ => true
  | .or1CBit _ _ => false
  | .aslDp _ => true
  | .aslAbs _ => false
  | .tset1Abs _ => false
  | .bpl _ => false
  | .clr1b0 _ => true
  | .bbc0 _ _ => true
  | .orADpX _ => true
  | .orAAbsX _ => false
  | .orAAbsY _ => false
  | .orAIndIdx _ => false
  | .orDpImm _ _ => true
  | .decwDp _ => true
  | .aslDpX _ => true
  | .cmpXAbs _ => false
  | .jmpAbsXInd _ => false
  | .set1b1 _ => true
  | .bbs1 _ _ => true
  | .andADp _ => true
  | .andAAbs _ => false
  | .andAIdxInd _ => false
  | .andAImm _ => false
  | .andDpDp _ _ => true
  | .or1CNotBit _ _ => false
  | .rolDp _ => true
  | .rolAbs _ => false
  | .cbneDp _ _ => true
  | .bra _ => false
  | .bmi _ => false
  | .clr1b1 _ => true
  | .bbc1 _ _ => true
  | .andADpX _ => true
  | .andAAbsX _ => false
  | .andAAbsY _ => false
  | .andAIndIdx _ => false
  | .andDpImm _ _ => true
  | .incwDp _ => true
  | .rolDpX _ => true
  | .cmpXDp _ => true
  | .call _ => false
  | .set1b2 _ => true
  | .bbs2 _ _ => true
  | .eorADp _ => true
  | .eorAAbs _ => false
  | .eorAIdxInd _ => false
  | .eorAImm _ => false
  | .eorDpDp _ _ => true
  | .and1CBit _ _ => false
  | .lsrDp _ => true
  | .lsrAbs _ => false
  | .tclr1Abs _ => false
  | .pcall _ => false
  | .bvc _ => false
  | .clr1b2 _ => true
  | .bbc2 _ _ => true
  | .eorADpX _ => true
  | .eorAAbsX _ => false
  | .eorAAbsY _ => false
  | .eorAIndIdx _ => false
  | .eorDpImm _ _ => true
  | .cmpwAXDp _ => true
  | .lsrDpX _ => true
  | .cmpYAbs _ => false
  | .jmpAbs _ => false
  | .set1b3 _ => true
  | .bbs3 _ _ => true
  | .cmpADp _ => true
  | .cmpAAbs _ => false
  | .cmpAIdxInd _ => false
  | .cmpAImm _ => false
  | .cmpDpDp _ _ => true
  | .and1CNotBit _ _ => false
  | .rorDp _ => true
  | .rorAbs _ => false
  | .dbnzDp _ _ => true
  | .bvs _ => false
  | .clr1b3 _ => true
  | .bbc3 _ _ => true
  | .cmpADpX _ => true
  | .cmpAAbsX _ => false
  | .cmpAAbsY _ => false
  | .cmpAIndIdx _ => false
  | .cmpDpImm _ _ => true
  | .addwAXDp _ => true
  | .rorDpX _ => true
  | .cmpYDp _ => true
  | .set1b4 _ => true
  | .bbs4 _ _ => true
  | .adcADp _ => true
  | .adcAAbs _ => false
  | .adcAIdxInd _ => false
  | .adcAImm _ => false
  | .adcDpDp _ _ => true
  | .eor1CBit _ _ => false
  | .decDp _ => true
  | .decAbs _ => false
  | .movYImm _ => false
  | .movDpImm _ _ => true
  | .bcc _ => false
  | .clr1b4 _ => true
  | .bbc4 _ _ => true
  | .adcADpX _ => true
  | .adcAAbsX _ => false
  | .adcAAbsY _ => false
  | .adcAIndIdx _ => false
  | .adcDpImm _ _ => true
  | .subwAXDp _ => true
  | .decDpX _ => true
  | .set1b5 _ => true
  | .bbs5 _ _ => true
  | .sbcADp _ => true
  | .sbcAAbs _ => false
  | .sbcAIdxInd _ => false
  | .sbcAImm _ => false
  | .sbcDpDp _ _ => true
  | .mov1CBit _ _ => false
  | .incDp _ => true
  | .incAbs _ => false
  | .cmpYImm _ => false
  | .bcs _ => false
  | .clr1b5 _ => true
  | .bbc5 _ _ => true
  | .sbcADpX _ => true
  | .sbcAAbsX _ => false
  | .sbcAAbsY _ => false
  | .sbcAIndIdx _ => false
  | .sbcDpImm _ _ => true
  | .movwAXDp _ => true
  | .incDpX _ => true
  | .set1b6 _ => true
  | .bbs6 _ _ => true
  | .movDpA _ => true
  | .movAbsA _ => false
  | .movIdxIndA _ => false
  | .cmpXImm _ => false
  | .movAbsX _ => false
  | .mov1BitC _ _ => false
  | .movDpY _ => true
  | .movAbsY _ => false
  | .movXImm _ => false
  | .bne _ => false
  | .clr1b6 _ => true
  | .bbc6 _ _ => true
  | .movDpXA _ => true
  | .movAbsXA _ => false
  | .movAbsYA _ => false
  | .movIndIdxA _ => false
  | .movDpX _ => true
  | .movDpYX _ => true
  | .movwDpAX _ => true
  | .movDpXY _ => true
  | .cbneDpX _ _ => true
  | .set1b7 _ => true
  | .bbs7 _ _ => true
  | .movADp _ => true
  | .movAAbs _ => false
  | .movAIdxInd _ => false
  | .movAImm _ => false
  | .movXAbs _ => false
  | .not1Bit _ _ => false
  | .movYDp _ => true
  | .movYAbs _ => false
  | .beq _ => false
  | .clr1b7 _ => true
  | .bbc7 _ _ => true
  | .movADpX _ => true
  | .movAAbsX _ => false
  | .movAAbsY _ => false
  | .movAIndIdx _ => false
  | .movXDp _ => true
  | .movXDpY _ => true
  | .movDpDp _ _ => true
  | .movYDpX _ => true
  | .dbnzY _ => false
  | .nop => false
  | .tcall0 => false
  | .orAIndX => true
  | .pushPsw => false
  | .brk => false
  | .tcall1 => false
  | .orIndXIndY => true
  | .aslA => false
  | .decX => false
  | .clrp => false
  | .tcall2 => false
  | .andAIndX => true
  | .pushA => false
  | .tcall3 => false
  | .andIndXIndY => true
  | .rolA => false
  | .incX => false
  | .setp => false
  | .tcall4 => false
  | .eorAIndX => true
  | .pushX => false
  | .tcall5 => false
  | .eorIndXIndY => true
  | .lsrA => false
  | .movXA => false
  | .clrc => false
  | .tcall6 => false
  | .cmpAIndX => true
  | .pushY => false
  | .ret => false
  | .tcall7 => false
  | .cmpIndXIndY => true
  | .rorA => false
  | .movAX => false
  | .reti => false
  | .setc => false
  | .tcall8 => false
  | .adcAIndX => true
  | .popPsw => false
  | .tcall9 => false
  | .adcIndXIndY => true
  | .decA => false
  | .movXSP => false
  | .divAXY => false
  | .xcn => false
  | .ei => false
  | .tcall10 => false
  | .sbcAIndX => true
  | .popA => false
  | .movIndXIncA => true
  | .tcall11 => false
  | .sbcIndXIndY => true
  | .incA => false
  | .movSPX => false
  | .das => false
  | .movAIndXInc => true
  | .di => false
  | .tcall12 => false
  | .movIndXA => true
  | .popX => false
  | .mulAX => false
  | .tcall13 => false
  | .decY => false
  | .movAY => false
  | .daa => false
  | .clrv => false
  | .tcall14 => false
  | .movAIndX => true
  | .notc => false
  | .popY => false
  | .sleep => false
  | .tcall15 => false
  | .incY => false
  | .movYA => false
  | .stop => false

end Sys2Proof.Machine
end

