-- ==== Sys2Proof/Certificates/Slice0/Obligations.lean ====
section
/-! DEFINITION. The statements for the provers. `Runs` (Safety.lean) says that an instruction answers a next state, with
which registers, which bus events in which order, and what every byte of memory then reads as. `s.busAt k a` is the byte
the bus answers at address `a` in the k-th cycle from now. -/

open Sys2Proof Sys2Proof.Machine

/-- Decode and encode agree (R70 to R79, R81): no operand bit of any of the 256 encodings is dropped. -/
def Obligations.DecodeOfEncodeIsInstruction : Prop :=
  ∀ (i : Instr) (rest : List Byte), i.WellFormed → decode (encode i ++ rest) = .ok (i, rest)

/-- The other direction: every byte the decoder takes is a byte of the encoding (R70 to R79), and what it reads is well formed. -/
def Obligations.EncodeOfDecodeIsBytes : Prop :=
  ∀ (bytes : List Byte) (i : Instr) (rest : List Byte),
    decode bytes = .ok (i, rest) → i.WellFormed ∧ encode i ++ rest = bytes

/-- Dispatch is total (R80, R380, R401), and the opcode byte alone decides the length, 1 to 3 bytes (R70). -/
def Obligations.EveryByteStringDecodes : Prop :=
  (∀ op b1 b2 : Byte, ∀ rest : List Byte, ∃ (i : Instr) (taken left : List Byte),
      decode (op :: b1 :: b2 :: rest) = .ok (i, left) ∧ encode i = op :: taken ∧ taken.length ≤ 2 ∧
        taken.length = (slotOf op).operandCount) ∧
    ∀ (bytes : List Byte) (e : DecodeError), decode bytes = .error e →
      bytes = [] ∨ ∃ op rest, bytes = op :: rest ∧ rest.length < (slotOf op).operandCount

/-- Words written out from the formats of R75 to R79. -/
def Obligations.SampleEncodingsDecode : Prop :=
  decode [0xFA, 0x10, 0x20] = .ok (.movDpDp 0x20 0x10, []) ∧
    decode [0x8F, 0x55, 0x20] = .ok (.movDpImm 0x20 0x55, []) ∧
    decode [0xAA, 0x34, 0xB2] = .ok (.mov1CBit 0x1234 5, []) ∧
    decode [0xE3, 0x20, 0xF5] = .ok (.bbs7 0x20 0xF5, []) ∧
    decode [0x91] = .ok (.tcall9, [])

/-- R381: a step fetches at PC, decodes and runs. The model's choice in the one case left out is log entry 5. -/
def Obligations.StepRunsDecodedInstruction : Prop :=
  ∀ (s : State) (i : Instr) (rest : List Byte), s.halt = false → s.oracle = [] →
    decode [s.memAt s.pc, s.memAt (s.pc + 1), s.memAt (s.pc + 2)] = .ok (i, rest) →
    (∀ o r, i = .dbnzDp o r → s.dp o ≠ s.pc + 2) →
    step s = exec i s

/-- Program order, one access a cycle (R7, R51, R59), discarded reads real (R57), code fetched when it is needed (R62), for every answer the bus may give (R64). -/
def Obligations.StepAccountsForEveryBusCycle : Prop :=
  ∀ s : State, s.halt = false → ∃ (t : State) (events : List BusEvent), step s = .next t ∧
    t.trace = events.reverse ++ s.trace ∧ t.cycles = s.cycles + events.length ∧
    fetchesOf events = bytesAt s.pc (encode s.nextInstr) ∧
    Accounts s.oracle s.cycles s.mem events t.mem ∧ t.oracle = s.oracle

/-- R384. The model's trace gets the idle event of that cycle. -/
def Obligations.HaltedStepIsOneIdleCycle : Prop :=
  ∀ s : State, s.halt = true →
    step s = .next { s with cycles := s.cycles + 1, trace := .idle :: s.trace }

/-- R383 and R450: nothing but reset leaves HALTED. -/
def Obligations.HaltedCoreIdlesForEver : Prop :=
  ∀ (k : Nat) (s : State), s.halt = true →
    Sys2Proof.core.run k s =
      .next { s with cycles := s.cycles + k, trace := List.replicate k .idle ++ s.trace }

/-- The cycle contract (R7, R382, R390, R448) over the table of Machine/Timing.lean, which is opcode_table.json's cycle_sequence column. -/
def Obligations.EveryInstructionFollowsItsCycleSequence : Prop :=
  ∀ (i : Instr) (s : State), ∃ (t : State) (events : List BusEvent), exec i s = .next t ∧
    t.trace = events.reverse ++ s.trace ∧ t.cycles = s.cycles + events.length ∧
    (events.map BusEvent.kind = cycleSequence i ∨
      conditionalBranch i = true ∧ events.map BusEvent.kind = cycleSequence i ++ [.i, .i])

/-- R31: "A non-branching instruction of length L leaves PC = (PC_before + L) mod 65536". -/
def Obligations.OtherInstructionsAdvancePcByLength : Prop :=
  ∀ (i : Instr) (s : State), controlFlow i = false →
    ∃ t, exec i s = .next t ∧ t.pc.toNat = (s.pc.toNat + (encode i).length) % 65536

/-- R41 and R383. -/
def Obligations.OnlySleepAndStopEnterHalted : Prop :=
  ∀ (i : Instr) (s : State), ∃ t, exec i s = .next t ∧
    t.halt = (s.halt || i == .sleep || i == .stop)

/-- R190: "No control-flow instruction writes a flag, except BRK (B and I) and RETI (all of PSW)". -/
def Obligations.ControlFlowKeepsFlagsAndRegisters : Prop :=
  ∀ (i : Instr) (s : State), controlFlow i = true → ∃ t, exec i s = .next t ∧
    (i ≠ .brk → i ≠ .reti → t.psw = s.psw) ∧ t.a = s.a ∧ t.x = s.x ∧ ((∀ r, i ≠ .dbnzY r) → t.y = s.y)

/-- R220: "No instruction of this file performs a bus write". -/
def Obligations.ReadOperateWritesNoMemory : Prop :=
  ∀ (i : Instr) (s : State), readOperate i = true → ∃ (t : State) (events : List BusEvent), exec i s = .next t ∧
    (∀ b, t.memAt b = s.memAt b) ∧ t.y = s.y ∧ t.sp = s.sp ∧
    t.trace = events.reverse ++ s.trace ∧ ∀ e ∈ events, e.kind ≠ .w

/-- R38 and R416. -/
def Obligations.OnlyBrkSetsBreakFlag : Prop :=
  ∀ (i : Instr) (s : State), i ≠ .popPsw → i ≠ .reti →
    ∃ t, exec i s = .next t ∧ t.psw.b = (s.psw.b || i == .brk)

/-- R36: "it has no other effect"; PUSH PSW and BRK store I as part of the PSW byte, and are left out for that alone. -/
def Obligations.InterruptEnableIsInert : Prop :=
  ∀ (i : Instr) (s s' : State), i ≠ .pushPsw → i ≠ .brk → s.SameButI s' →
    ∃ t t', exec i s = .next t ∧ exec i s' = .next t' ∧ t.SameButI t'

/-- R43: none of them "carries a value from one instruction to the next". What the model keeps in them is log entry 4. -/
def Obligations.OperandLatchesAreDead : Prop :=
  ∀ s s' : State, s.SameButLatches s' →
    ∃ t t', step s = .next t ∧ step s' = .next t' ∧ t.SameButLatches t'

/-- The invariant of Safety.lean. The canonical form and the trace are the model's own (log entries 1 and 3); that the counter grows by at least 1 is R7 and R44 (e). -/
def Obligations.StepKeepsStateSound : Prop :=
  ∀ s t : State, s.Sound → step s = .next t →
    t.Sound ∧ s.cycles + 1 ≤ t.cycles ∧ t.cycles ≤ s.cycles + 12 ∧ t.oracle = s.oracle

/-- The model's choice: the invariant of Safety.lean is about its memory (log entry 1) and its trace (log entry 3), and State.reset stands over an empty memory (log entry 8). That it holds at reset goes with StepKeepsStateSound. -/
def Obligations.ResetStateIsSound : Prop :=
  State.reset.Sound

/-- R28, R44 (c) and (d), R122, said of the operations and of the bus events of exec. The pointer forms read their pointer in the window too: LoadsOfA and the like give each of their accesses. -/
def Obligations.StackAndDirectPageStayInTheirWindows : Prop :=
  (∀ s : State, s.stackAddr.toNat = 0x100 + s.sp.toNat) ∧
    (∀ (s : State) (o : Byte), (s.dp o).toNat = 256 * s.psw.p.toNat + o.toNat) ∧
    (∀ (s : State) (v : Byte), (s.push v).sp.toNat = (s.sp.toNat + 255) % 256 ∧
      (s.push v).memAt s.stackAddr = v ∧ ∀ b, b ≠ s.stackAddr → (s.push v).memAt b = s.memAt b) ∧
    (∀ s : State,
      let ea := BitVec.ofNat 16 (0x100 + (s.sp.toNat + 1) % 256)
      s.pop.sp.toNat = (s.sp.toNat + 1) % 256 ∧ s.popValue = s.busAt 0 ea ∧
        s.pop.trace = .read ea s.popValue :: s.trace ∧ s.pop.mem = s.mem) ∧
    (∀ (i : Instr) (s : State),
      i ∈ ([.pushA, .pushX, .pushY, .pushPsw, .brk, .tcall0, .tcall1, .tcall2, .tcall3, .tcall4, .tcall5, .tcall6,
        .tcall7, .tcall8, .tcall9, .tcall10, .tcall11, .tcall12, .tcall13, .tcall14, .tcall15] : List Instr) ∨
        (∃ addr, i = .call addr) ∨ (∃ up, i = .pcall up) →
      ∃ (t : State) (events : List BusEvent), exec i s = .next t ∧ t.trace = events.reverse ++ s.trace ∧
        ∀ a v, BusEvent.write a v ∈ events → 0x100 ≤ a.toNat ∧ a.toNat ≤ 0x1FF) ∧
    (∀ i ∈ ([.popA, .popX, .popY, .popPsw, .ret, .reti] : List Instr), ∀ s : State,
      ∃ (t : State) (events : List BusEvent), exec i s = .next t ∧ t.trace = events.reverse ++ s.trace ∧
        ∀ a v, BusEvent.read a v ∈ events → 0x100 ≤ a.toNat ∧ a.toNat ≤ 0x1FF) ∧
    ∀ (i : Instr) (s : State), directPageOnly i = true →
      ∃ (t : State) (events : List BusEvent), exec i s = .next t ∧ t.trace = events.reverse ++ s.trace ∧
        ∀ a v, BusEvent.read a v ∈ events ∨ BusEvent.discard a v ∈ events ∨ BusEvent.write a v ∈ events →
          a.toNat / 256 = s.psw.p.toNat

/-- R141, R144, R146, R149, R152, R155 to R158. -/
def Obligations.LoadsOfA : Prop :=
  AccumulatorForms 0xE0 .movAImm .movADp .movADpX .movAIdxInd .movAIndIdx .movAAbs .movAAbsX .movAAbsY .movAIndX
    loadIntoA

/-- R142, R143, R145, R147, R148, R150, R151, R153, R154. -/
def Obligations.LoadsOfXAndYAndPostIncrementLoad : Prop :=
  TakesImmediate 0xCD .movXImm loadIntoX ∧ TakesDirect 0xF8 .movXDp loadIntoX ∧
    TakesDirectIndexed State.y 0xF9 .movXDpY loadIntoX ∧ TakesAbsolute 0xE9 .movXAbs loadIntoX ∧
    TakesImmediate 0x8D .movYImm loadIntoY ∧ TakesDirect 0xEB .movYDp loadIntoY ∧
    TakesDirectIndexed State.x 0xFB .movYDpX loadIntoY ∧ TakesAbsolute 0xEC .movYAbs loadIntoY ∧
    ∀ s : State,
      let v := s.busAt 2 (s.dp s.x)
      Runs .movAIndXInc s { s.registers with a := v, x := s.x + 1, psw := s.psw.setNZ8 v, pc := s.pc + 1 }
        [.fetch s.pc 0xBF, .idle, .read (s.dp s.x) v, .idle] s.memAt

/-- R159 to R161, R164, R167, R170 to R173. -/
def Obligations.StoresOfA : Prop :=
  StoresDirect 0xC4 .movDpA State.a ∧ StoresDirectIndexed State.x 0xD4 .movDpXA State.a ∧
    StoresAbsolute 0xC5 .movAbsA State.a ∧ StoresAbsoluteIndexed State.x 0xD5 .movAbsXA State.a ∧
    StoresAbsoluteIndexed State.y 0xD6 .movAbsYA State.a ∧
    (∀ s : State,
      let ea := s.dp s.x
      Runs .movIndXA s { s.registers with pc := s.pc + 1 }
        [.fetch s.pc 0xC6, .idle, .discard ea (s.busAt 2 ea), .write ea s.a] (Function.update s.memAt ea s.a)) ∧
    (∀ s : State,
      let ea := s.dp s.x
      Runs .movIndXIncA s { s.registers with pc := s.pc + 1, x := s.x + 1 }
        [.fetch s.pc 0xAF, .idle, .idle, .write ea s.a] (Function.update s.memAt ea s.a)) ∧
    (∀ (s : State) (o : Byte),
      let p := o + s.x
      let lo := s.busAt 3 (s.dp p)
      let hi := s.busAt 4 (s.dp (p + 1))
      let ea := wordOf hi lo
      Runs (.movIdxIndA o) s { s.registers with pc := s.pc + 2 }
        [.fetch s.pc 0xC7, .fetch (s.pc + 1) o, .idle, .read (s.dp p) lo, .read (s.dp (p + 1)) hi,
          .discard ea (s.busAt 5 ea), .write ea s.a] (Function.update s.memAt ea s.a)) ∧
    ∀ (s : State) (o : Byte),
      let lo := s.busAt 2 (s.dp o)
      let hi := s.busAt 3 (s.dp (o + 1))
      let ea := wordOf hi lo + s.y.setWidth 16
      Runs (.movIndIdxA o) s { s.registers with pc := s.pc + 2 }
        [.fetch s.pc 0xD7, .fetch (s.pc + 1) o, .read (s.dp o) lo, .read (s.dp (o + 1)) hi, .idle,
          .discard ea (s.busAt 5 ea), .write ea s.a] (Function.update s.memAt ea s.a)

/-- R162, R163, R165, R166, R168, R169, R174 to R179. -/
def Obligations.StoresOfXAndYAndRegisterMoves : Prop :=
  StoresDirect 0xD8 .movDpX State.x ∧ StoresDirect 0xCB .movDpY State.y ∧
    StoresDirectIndexed State.y 0xD9 .movDpYX State.x ∧ StoresDirectIndexed State.x 0xDB .movDpXY State.y ∧
    StoresAbsolute 0xC9 .movAbsX State.x ∧ StoresAbsolute 0xCC .movAbsY State.y ∧
    RunsInside 0x7D 1 .movAX (fun r => loadIntoA r r.x) ∧ RunsInside 0xDD 1 .movAY (fun r => loadIntoA r r.y) ∧
    RunsInside 0x5D 1 .movXA (fun r => loadIntoX r r.a) ∧ RunsInside 0xFD 1 .movYA (fun r => loadIntoY r r.a) ∧
    RunsInside 0x9D 1 .movXSP (fun r => loadIntoX r r.sp) ∧
    RunsInside 0xBD 1 .movSPX (fun r => { r with sp := r.x })

/-- R180 to R185. The bit address is the low 13 bits of the operand, whatever the term holds. -/
def Obligations.MemoryWordAndBitMoves : Prop :=
  (∀ (s : State) (dst src : Byte),
      let v := s.busAt 2 (s.dp src)
      Runs (.movDpDp dst src) s { s.registers with pc := s.pc + 3 }
        [.fetch s.pc 0xFA, .fetch (s.pc + 1) src, .read (s.dp src) v, .fetch (s.pc + 2) dst, .write (s.dp dst) v]
        (Function.update s.memAt (s.dp dst) v)) ∧
    (∀ (s : State) (dst imm : Byte),
      Runs (.movDpImm dst imm) s { s.registers with pc := s.pc + 3 }
        [.fetch s.pc 0x8F, .fetch (s.pc + 1) imm, .fetch (s.pc + 2) dst,
          .discard (s.dp dst) (s.busAt 3 (s.dp dst)), .write (s.dp dst) imm]
        (Function.update s.memAt (s.dp dst) imm)) ∧
    (∀ (s : State) (o : Byte),
      let lo := s.busAt 2 (s.dp o)
      let hi := s.busAt 4 (s.dp (o + 1))
      Runs (.movwAXDp o) s { s.registers with pc := s.pc + 2, a := hi, x := lo, psw := s.psw.setNZ16 (wordOf hi lo) }
        [.fetch s.pc 0xBA, .fetch (s.pc + 1) o, .read (s.dp o) lo, .idle, .read (s.dp (o + 1)) hi] s.memAt) ∧
    (∀ (s : State) (o : Byte),
      Runs (.movwDpAX o) s { s.registers with pc := s.pc + 2 }
        [.fetch s.pc 0xDA, .fetch (s.pc + 1) o, .discard (s.dp o) (s.busAt 2 (s.dp o)), .write (s.dp o) s.x,
          .write (s.dp (o + 1)) s.a]
        (Function.update (Function.update s.memAt (s.dp o) s.x) (s.dp (o + 1)) s.a)) ∧
    (∀ (s : State) (m : Word) (b : BitVec 3),
      let w := bitOperand m b
      let v := s.busAt 3 (bitAddress m)
      Runs (.mov1CBit m b) s { s.registers with pc := s.pc + 3, psw := { s.psw with c := v.getLsbD b.toNat } }
        [.fetch s.pc 0xAA, .fetch (s.pc + 1) (wordLow w), .fetch (s.pc + 2) (wordHigh w),
          .read (bitAddress m) v] s.memAt) ∧
    ∀ (s : State) (m : Word) (b : BitVec 3),
      let w := bitOperand m b
      let v := s.busAt 3 (bitAddress m)
      let v' := if s.psw.c then v ||| (1 : Byte) <<< b.toNat else v &&& (0xFF ^^^ (1 : Byte) <<< b.toNat)
      Runs (.mov1BitC m b) s { s.registers with pc := s.pc + 3 }
        [.fetch s.pc 0xCA, .fetch (s.pc + 1) (wordLow w), .fetch (s.pc + 2) (wordHigh w),
          .read (bitAddress m) v, .idle, .write (bitAddress m) v']
        (Function.update s.memAt (bitAddress m) v')

/-- R191 to R199. -/
def Obligations.RelativeBranches : Prop :=
  BranchesWhen 0x2F .bra (fun _ => true) ∧
    BranchesWhen 0xF0 .beq (fun p => p.z) ∧ BranchesWhen 0xD0 .bne (fun p => !p.z) ∧
    BranchesWhen 0xB0 .bcs (fun p => p.c) ∧ BranchesWhen 0x90 .bcc (fun p => !p.c) ∧
    BranchesWhen 0x70 .bvs (fun p => p.v) ∧ BranchesWhen 0x50 .bvc (fun p => !p.v) ∧
    BranchesWhen 0x30 .bmi (fun p => p.n) ∧ BranchesWhen 0x10 .bpl (fun p => !p.n)

/-- R200 to R205. -/
def Obligations.BitCompareAndCountBranches : Prop :=
  (∀ e ∈ ([(0x03, 0, .bbs0), (0x23, 1, .bbs1), (0x43, 2, .bbs2), (0x63, 3, .bbs3), (0x83, 4, .bbs4),
        (0xA3, 5, .bbs5), (0xC3, 6, .bbs6), (0xE3, 7, .bbs7)] : List (Byte × Nat × (Byte → Byte → Instr))),
      ∀ (s : State) (o r : Byte),
        let v := s.busAt 2 (s.dp o)
        let start : List BusEvent :=
          [.fetch s.pc e.1, .fetch (s.pc + 1) o, .read (s.dp o) v, .fetch (s.pc + 2) r, .idle]
        if v.getLsbD e.2.1 then
          Runs (e.2.2 o r) s { s.registers with pc := s.pc + 3 + r.signExtend 16 } (start ++ [.idle, .idle]) s.memAt
        else Runs (e.2.2 o r) s { s.registers with pc := s.pc + 3 } start s.memAt) ∧
    (∀ e ∈ ([(0x13, 0, .bbc0), (0x33, 1, .bbc1), (0x53, 2, .bbc2), (0x73, 3, .bbc3), (0x93, 4, .bbc4),
        (0xB3, 5, .bbc5), (0xD3, 6, .bbc6), (0xF3, 7, .bbc7)] : List (Byte × Nat × (Byte → Byte → Instr))),
      ∀ (s : State) (o r : Byte),
        let v := s.busAt 2 (s.dp o)
        let start : List BusEvent :=
          [.fetch s.pc e.1, .fetch (s.pc + 1) o, .read (s.dp o) v, .fetch (s.pc + 2) r, .idle]
        if v.getLsbD e.2.1 then Runs (e.2.2 o r) s { s.registers with pc := s.pc + 3 } start s.memAt
        else
          Runs (e.2.2 o r) s { s.registers with pc := s.pc + 3 + r.signExtend 16 } (start ++ [.idle, .idle])
            s.memAt) ∧
    (∀ (s : State) (o r : Byte),
      let v := s.busAt 2 (s.dp o)
      let start : List BusEvent :=
        [.fetch s.pc 0x2E, .fetch (s.pc + 1) o, .read (s.dp o) v, .fetch (s.pc + 2) r, .idle]
      if s.a = v then Runs (.cbneDp o r) s { s.registers with pc := s.pc + 3 } start s.memAt
      else
        Runs (.cbneDp o r) s { s.registers with pc := s.pc + 3 + r.signExtend 16 } (start ++ [.idle, .idle])
          s.memAt) ∧
    (∀ (s : State) (o r : Byte),
      let ea := s.dp (o + s.x)
      let v := s.busAt 3 ea
      let start : List BusEvent :=
        [.fetch s.pc 0xDE, .fetch (s.pc + 1) o, .idle, .read ea v, .fetch (s.pc + 2) r, .idle]
      if s.a = v then Runs (.cbneDpX o r) s { s.registers with pc := s.pc + 3 } start s.memAt
      else
        Runs (.cbneDpX o r) s { s.registers with pc := s.pc + 3 + r.signExtend 16 } (start ++ [.idle, .idle])
          s.memAt) ∧
    (∀ (s : State) (o r : Byte),
      let v := s.busAt 2 (s.dp o)
      let count := v - 1
      let start : List BusEvent :=
        [.fetch s.pc 0x6E, .fetch (s.pc + 1) o, .read (s.dp o) v, .write (s.dp o) count, .fetch (s.pc + 2) r]
      if count = 0 then
        Runs (.dbnzDp o r) s { s.registers with pc := s.pc + 3 } start (Function.update s.memAt (s.dp o) count)
      else
        Runs (.dbnzDp o r) s { s.registers with pc := s.pc + 3 + r.signExtend 16 } (start ++ [.idle, .idle])
          (Function.update s.memAt (s.dp o) count)) ∧
    ∀ (s : State) (r : Byte),
      let count := s.y - 1
      let start : List BusEvent := [.fetch s.pc 0xFE, .fetch (s.pc + 1) r, .idle, .idle]
      if count = 0 then Runs (.dbnzY r) s { s.registers with pc := s.pc + 2, y := count } start s.memAt
      else
        Runs (.dbnzY r) s { s.registers with pc := s.pc + 2 + r.signExtend 16, y := count }
          (start ++ [.idle, .idle]) s.memAt

/-- R206 to R210. -/
def Obligations.JumpsAndCalls : Prop :=
  (∀ (s : State) (addr : Word),
      Runs (.jmpAbs addr) s { s.registers with pc := addr }
        [.fetch s.pc 0x5F, .fetch (s.pc + 1) (wordLow addr), .fetch (s.pc + 2) (wordHigh addr)] s.memAt) ∧
    (∀ (s : State) (addr : Word),
      let e := addr + s.x.setWidth 16
      let lo := s.busAt 4 e
      let hi := s.busAt 5 (e + 1)
      Runs (.jmpAbsXInd addr) s { s.registers with pc := wordOf hi lo }
        [.fetch s.pc 0x1F, .fetch (s.pc + 1) (wordLow addr), .fetch (s.pc + 2) (wordHigh addr), .idle, .read e lo,
          .read (e + 1) hi] s.memAt) ∧
    (∀ (s : State) (addr : Word),
      let back := s.pc + 3
      Runs (.call addr) s { s.registers with pc := addr, sp := s.sp - 2 }
        [.fetch s.pc 0x3F, .fetch (s.pc + 1) (wordLow addr), .fetch (s.pc + 2) (wordHigh addr), .idle, .idle, .idle,
          .write (wordOf 0x01 s.sp) (wordHigh back), .write (wordOf 0x01 (s.sp - 1)) (wordLow back)]
        (Function.update (Function.update s.memAt (wordOf 0x01 s.sp) (wordHigh back))
          (wordOf 0x01 (s.sp - 1)) (wordLow back))) ∧
    (∀ (s : State) (u : Byte),
      let back := s.pc + 2
      Runs (.pcall u) s { s.registers with pc := wordOf 0xFF u, sp := s.sp - 2 }
        [.fetch s.pc 0x4F, .fetch (s.pc + 1) u, .idle, .idle,
          .write (wordOf 0x01 s.sp) (wordHigh back), .write (wordOf 0x01 (s.sp - 1)) (wordLow back)]
        (Function.update (Function.update s.memAt (wordOf 0x01 s.sp) (wordHigh back))
          (wordOf 0x01 (s.sp - 1)) (wordLow back))) ∧
    ∀ e ∈ ([(0x01, 0xFFDE, .tcall0), (0x11, 0xFFDC, .tcall1), (0x21, 0xFFDA, .tcall2), (0x31, 0xFFD8, .tcall3), (0x41, 0xFFD6, .tcall4), (0x51, 0xFFD4, .tcall5), (0x61, 0xFFD2, .tcall6), (0x71, 0xFFD0, .tcall7), (0x81, 0xFFCE, .tcall8), (0x91, 0xFFCC, .tcall9), (0xA1, 0xFFCA, .tcall10), (0xB1, 0xFFC8, .tcall11), (0xC1, 0xFFC6, .tcall12), (0xD1, 0xFFC4, .tcall13), (0xE1, 0xFFC2, .tcall14), (0xF1, 0xFFC0, .tcall15)] : List (Byte × Word × Instr)), ∀ s : State,
      let back := s.pc + 1
      let lo := s.busAt 1 e.2.1
      let hi := s.busAt 2 (e.2.1 + 1)
      Runs e.2.2 s { s.registers with pc := wordOf hi lo, sp := s.sp - 2 }
        [.fetch s.pc e.1, .read e.2.1 lo, .read (e.2.1 + 1) hi, .idle, .idle, .idle,
          .write (wordOf 0x01 s.sp) (wordHigh back), .write (wordOf 0x01 (s.sp - 1)) (wordLow back)]
        (Function.update (Function.update s.memAt (wordOf 0x01 s.sp) (wordHigh back))
          (wordOf 0x01 (s.sp - 1)) (wordLow back))

/-- R211 and R404: the entry is precise, unconditional, and changes no mode. -/
def Obligations.BrkTakesTheTrap : Prop :=
  ∀ s : State,
    let back := s.pc + 1
    let lo := s.busAt 1 0xFFDE
    let hi := s.busAt 2 0xFFDF
    Runs .brk s
      { s.registers with pc := wordOf hi lo, sp := s.sp - 3, psw := { s.psw with b := true, i := false } }
      [.fetch s.pc 0x0F, .read 0xFFDE lo, .read 0xFFDF hi, .idle, .idle,
        .write (wordOf 0x01 s.sp) (wordHigh back), .write (wordOf 0x01 (s.sp - 1)) (wordLow back),
        .write (wordOf 0x01 (s.sp - 2)) s.psw.toByte]
      (Function.update (Function.update (Function.update s.memAt
        (wordOf 0x01 s.sp) (wordHigh back)) (wordOf 0x01 (s.sp - 1)) (wordLow back))
        (wordOf 0x01 (s.sp - 2)) s.psw.toByte)

/-- R212, R213; RETI restores all eight flags (R405). -/
def Obligations.ReturnsPopInInverseOrder : Prop :=
  (∀ s : State,
      let lo := s.busAt 1 (wordOf 0x01 (s.sp + 1))
      let hi := s.busAt 2 (wordOf 0x01 (s.sp + 2))
      Runs .ret s { s.registers with pc := wordOf hi lo, sp := s.sp + 2 }
        [.fetch s.pc 0x6F, .read (wordOf 0x01 (s.sp + 1)) lo, .read (wordOf 0x01 (s.sp + 2)) hi, .idle, .idle]
        s.memAt) ∧
    ∀ s : State,
      let p := s.busAt 1 (wordOf 0x01 (s.sp + 1))
      let lo := s.busAt 2 (wordOf 0x01 (s.sp + 2))
      let hi := s.busAt 3 (wordOf 0x01 (s.sp + 3))
      Runs .reti s { s.registers with pc := wordOf hi lo, sp := s.sp + 3, psw := Psw.ofByte p }
        [.fetch s.pc 0x7F, .read (wordOf 0x01 (s.sp + 1)) p, .read (wordOf 0x01 (s.sp + 2)) lo,
          .read (wordOf 0x01 (s.sp + 3)) hi, .idle, .idle] s.memAt

/-- R405: RETI pops "all eight bits, so B, I and P come back as they were pushed". R29: "returns pop in the inverse order". The oracle is empty: a bus that answered otherwise could return other bytes. -/
def Obligations.ReturnsUndoEntriesAndPopsUndoPushes : Prop :=
  ∀ s : State, s.oracle = [] →
    (∃ t u, exec .brk s = .next t ∧ exec .reti t = .next u ∧
      u.registers = { s.registers with pc := s.pc + 1 }) ∧
    (∀ addr : Word, ∃ t u, exec (.call addr) s = .next t ∧ t.pc = addr ∧ exec .ret t = .next u ∧
      u.registers = { s.registers with pc := s.pc + 3 }) ∧
    (∀ up : Byte, ∃ t u, exec (.pcall up) s = .next t ∧ exec .ret t = .next u ∧
      u.registers = { s.registers with pc := s.pc + 2 }) ∧
    ∀ e ∈ ([(.pushA, .popA), (.pushX, .popX), (.pushY, .popY), (.pushPsw, .popPsw)] : List (Instr × Instr)),
      ∃ t u, exec e.1 s = .next t ∧ exec e.2 t = .next u ∧ u.registers = { s.registers with pc := s.pc + 2 }

/-- R221 to R229. -/
def Obligations.OrInNineForms : Prop :=
  AccumulatorForms 0x00 .orAImm .orADp .orADpX .orAIdxInd .orAIndIdx .orAAbs .orAAbsX .orAAbsY .orAIndX
    (combineIntoA aluOr)

/-- R230 to R238. -/
def Obligations.AndInNineForms : Prop :=
  AccumulatorForms 0x20 .andAImm .andADp .andADpX .andAIdxInd .andAIndIdx .andAAbs .andAAbsX .andAAbsY .andAIndX
    (combineIntoA aluAnd)

/-- R239 to R247. -/
def Obligations.EorInNineForms : Prop :=
  AccumulatorForms 0x40 .eorAImm .eorADp .eorADpX .eorAIdxInd .eorAIndIdx .eorAAbs .eorAAbsX .eorAAbsY .eorAIndX
    (combineIntoA aluEor)

/-- R248 to R256. -/
def Obligations.CmpInNineForms : Prop :=
  AccumulatorForms 0x60 .cmpAImm .cmpADp .cmpADpX .cmpAIdxInd .cmpAIndIdx .cmpAAbs .cmpAAbsX .cmpAAbsY .cmpAIndX
    (compareWith Registers.a)

/-- R257 to R265. -/
def Obligations.AdcInNineForms : Prop :=
  AccumulatorForms 0x80 .adcAImm .adcADp .adcADpX .adcAIdxInd .adcAIndIdx .adcAAbs .adcAAbsX .adcAAbsY .adcAIndX
    (combineIntoA aluAdc)

/-- R266 to R274. -/
def Obligations.SbcInNineForms : Prop :=
  AccumulatorForms 0xA0 .sbcAImm .sbcADp .sbcADpX .sbcAIdxInd .sbcAIndIdx .sbcAAbs .sbcAAbsX .sbcAAbsY .sbcAIndX
    (combineIntoA aluSbc)

/-- R275 to R283. -/
def Obligations.IndexComparesAndWordArithmetic : Prop :=
  TakesImmediate 0xC8 .cmpXImm (compareWith Registers.x) ∧ TakesDirect 0x3E .cmpXDp (compareWith Registers.x) ∧
    TakesAbsolute 0x1E .cmpXAbs (compareWith Registers.x) ∧
    TakesImmediate 0xAD .cmpYImm (compareWith Registers.y) ∧ TakesDirect 0x7E .cmpYDp (compareWith Registers.y) ∧
    TakesAbsolute 0x5E .cmpYAbs (compareWith Registers.y) ∧
    (∀ e ∈ ([(0x7A, .addwAXDp, aluAddw), (0x9A, .subwAXDp, aluSubw)] :
        List (Byte × (Byte → Instr) × (Word → Word → Psw → Alu16))), ∀ (s : State) (o : Byte),
      let lo := s.busAt 2 (s.dp o)
      let hi := s.busAt 4 (s.dp (o + 1))
      let res := e.2.2 (wordOf s.a s.x) (wordOf hi lo) s.psw
      Runs (e.2.1 o) s
        { s.registers with pc := s.pc + 2, a := wordHigh res.value, x := wordLow res.value, psw := res.psw }
        [.fetch s.pc e.1, .fetch (s.pc + 1) o, .read (s.dp o) lo, .idle, .read (s.dp (o + 1)) hi] s.memAt) ∧
    ∀ (s : State) (o : Byte),
      let lo := s.busAt 2 (s.dp o)
      let hi := s.busAt 3 (s.dp (o + 1))
      Runs (.cmpwAXDp o) s
        { s.registers with pc := s.pc + 2, psw := aluCmpw (wordOf s.a s.x) (wordOf hi lo) s.psw }
        [.fetch s.pc 0x5A, .fetch (s.pc + 1) o, .read (s.dp o) lo, .read (s.dp (o + 1)) hi] s.memAt

/-- R284 to R288. -/
def Obligations.BitOperationsIntoCarry : Prop :=
  ∀ e ∈ ([(0x4A, 0, .and1CBit, fun c v => c && v), (0x6A, 0, .and1CNotBit, fun c v => c && !v),
      (0x0A, 1, .or1CBit, fun c v => c || v), (0x2A, 1, .or1CNotBit, fun c v => c || !v),
      (0x8A, 1, .eor1CBit, fun c v => c != v)] :
      List (Byte × Nat × (Word → BitVec 3 → Instr) × (Bool → Bool → Bool))),
    ∀ (s : State) (m : Word) (b : BitVec 3),
      let w := bitOperand m b
      let v := s.busAt 3 (bitAddress m)
      Runs (e.2.2.1 m b) s
        { s.registers with pc := s.pc + 3, psw := { s.psw with c := e.2.2.2 s.psw.c (v.getLsbD b.toNat) } }
        ([.fetch s.pc e.1, .fetch (s.pc + 1) (wordLow w), .fetch (s.pc + 2) (wordHigh w),
          .read (bitAddress m) v] ++ List.replicate e.2.1 .idle) s.memAt

/-- R291 to R298. -/
def Obligations.ShiftsLeftAndRotatesLeft : Prop :=
  ModifyForms 0x00 .aslDp .aslDpX .aslAbs .aslA aluAsl ∧
    ModifyForms 0x20 .rolDp .rolDpX .rolAbs .rolA aluRol

/-- R299 to R306. -/
def Obligations.ShiftsRightAndRotatesRight : Prop :=
  ModifyForms 0x40 .lsrDp .lsrDpX .lsrAbs .lsrA aluLsr ∧
    ModifyForms 0x60 .rorDp .rorDpX .rorAbs .rorA aluRor

/-- R307 to R318. -/
def Obligations.IncrementsAndDecrements : Prop :=
  ModifyForms 0x80 .decDp .decDpX .decAbs .decA (fun v p => ⟨v - 1, p.setNZ8 (v - 1)⟩) ∧
    ModifyForms 0xA0 .incDp .incDpX .incAbs .incA (fun v p => ⟨v + 1, p.setNZ8 (v + 1)⟩) ∧
    RunsInside 0x3D 1 .incX (fun r => loadIntoX r (r.x + 1)) ∧
    RunsInside 0x1D 1 .decX (fun r => loadIntoX r (r.x - 1)) ∧
    RunsInside 0xFC 1 .incY (fun r => loadIntoY r (r.y + 1)) ∧
    RunsInside 0xDC 1 .decY (fun r => loadIntoY r (r.y - 1))

/-- R319 to R322. -/
def Obligations.WordStepsAndTestedBits : Prop :=
  (∀ e ∈ ([(0x3A, 1, .incwDp), (0x1A, -1, .decwDp)] : List (Byte × Word × (Byte → Instr))),
      ∀ (s : State) (o : Byte),
        let lo := s.busAt 2 (s.dp o)
        let hi := s.busAt 4 (s.dp (o + 1))
        let w := wordOf hi lo + e.2.1
        Runs (e.2.2 o) s { s.registers with pc := s.pc + 2, psw := s.psw.setNZ16 w }
          [.fetch s.pc e.1, .fetch (s.pc + 1) o, .read (s.dp o) lo, .write (s.dp o) (wordLow w),
            .read (s.dp (o + 1)) hi, .write (s.dp (o + 1)) (wordHigh w)]
          (Function.update (Function.update s.memAt (s.dp o) (wordLow w)) (s.dp (o + 1)) (wordHigh w))) ∧
    ∀ e ∈ ([(0x0E, .tset1Abs, fun v a => v ||| a), (0x4E, .tclr1Abs, fun v a => v &&& (a ^^^ 0xFF))] :
        List (Byte × (Word → Instr) × (Byte → Byte → Byte))),
      ∀ (s : State) (addr : Word),
        let v := s.busAt 3 addr
        Runs (e.2.1 addr) s { s.registers with pc := s.pc + 3, psw := s.psw.setNZ8 (s.a - v) }
          [.fetch s.pc e.1, .fetch (s.pc + 1) (wordLow addr), .fetch (s.pc + 2) (wordHigh addr), .read addr v,
            .discard addr (s.busAt 4 addr), .write addr (e.2.2 v s.a)]
          (Function.update s.memAt addr (e.2.2 v s.a))

/-- R323 to R325. -/
def Obligations.SingleBitWrites : Prop :=
  (∀ e ∈ ([(0x02, 0, .set1b0), (0x22, 1, .set1b1), (0x42, 2, .set1b2), (0x62, 3, .set1b3), (0x82, 4, .set1b4), (0xA2, 5, .set1b5), (0xC2, 6, .set1b6), (0xE2, 7, .set1b7)] : List (Byte × Nat × (Byte → Instr))),
      ∀ (s : State) (o : Byte),
        let v := s.busAt 2 (s.dp o)
        Runs (e.2.2 o) s { s.registers with pc := s.pc + 2 }
          [.fetch s.pc e.1, .fetch (s.pc + 1) o, .read (s.dp o) v, .write (s.dp o) (v ||| (1 : Byte) <<< e.2.1)]
          (Function.update s.memAt (s.dp o) (v ||| (1 : Byte) <<< e.2.1))) ∧
    (∀ e ∈ ([(0x12, 0, .clr1b0), (0x32, 1, .clr1b1), (0x52, 2, .clr1b2), (0x72, 3, .clr1b3), (0x92, 4, .clr1b4), (0xB2, 5, .clr1b5), (0xD2, 6, .clr1b6), (0xF2, 7, .clr1b7)] : List (Byte × Nat × (Byte → Instr))),
      ∀ (s : State) (o : Byte),
        let v := s.busAt 2 (s.dp o)
        Runs (e.2.2 o) s { s.registers with pc := s.pc + 2 }
          [.fetch s.pc e.1, .fetch (s.pc + 1) o, .read (s.dp o) v, .write (s.dp o) (v &&& (0xFF ^^^ (1 : Byte) <<< e.2.1))]
          (Function.update s.memAt (s.dp o) (v &&& (0xFF ^^^ (1 : Byte) <<< e.2.1)))) ∧
    ∀ (s : State) (m : Word) (b : BitVec 3),
      let w := bitOperand m b
      let v := s.busAt 3 (bitAddress m)
      Runs (.not1Bit m b) s { s.registers with pc := s.pc + 3 }
        [.fetch s.pc 0xEA, .fetch (s.pc + 1) (wordLow w), .fetch (s.pc + 2) (wordHigh w),
          .read (bitAddress m) v, .write (bitAddress m) (v ^^^ (1 : Byte) <<< b.toNat)]
        (Function.update s.memAt (bitAddress m) (v ^^^ (1 : Byte) <<< b.toNat))

/-- R326 to R337. -/
def Obligations.LogicAndCompareAtMemoryDestination : Prop :=
  MemoryDestinationForms 0x00 .orDpDp .orDpImm .orIndXIndY aluOr ∧
    MemoryDestinationForms 0x20 .andDpDp .andDpImm .andIndXIndY aluAnd ∧
    MemoryDestinationForms 0x40 .eorDpDp .eorDpImm .eorIndXIndY aluEor ∧
    (∀ (s : State) (dst src : Byte),
      let v := s.busAt 2 (s.dp src)
      let t := s.busAt 4 (s.dp dst)
      Runs (.cmpDpDp dst src) s { s.registers with pc := s.pc + 3, psw := aluCmp t v s.psw }
        [.fetch s.pc 0x69, .fetch (s.pc + 1) src, .read (s.dp src) v, .fetch (s.pc + 2) dst, .read (s.dp dst) t,
          .idle] s.memAt) ∧
    (∀ (s : State) (dst imm : Byte),
      let t := s.busAt 3 (s.dp dst)
      Runs (.cmpDpImm dst imm) s { s.registers with pc := s.pc + 3, psw := aluCmp t imm s.psw }
        [.fetch s.pc 0x78, .fetch (s.pc + 1) imm, .fetch (s.pc + 2) dst, .read (s.dp dst) t, .idle] s.memAt) ∧
    ∀ s : State,
      let v := s.busAt 2 (s.dp s.y)
      let t := s.busAt 3 (s.dp s.x)
      Runs .cmpIndXIndY s { s.registers with pc := s.pc + 1, psw := aluCmp t v s.psw }
        [.fetch s.pc 0x79, .idle, .read (s.dp s.y) v, .read (s.dp s.x) t, .idle] s.memAt

/-- R338 to R343. -/
def Obligations.AddAndSubtractAtMemoryDestination : Prop :=
  MemoryDestinationForms 0x80 .adcDpDp .adcDpImm .adcIndXIndY aluAdc ∧
    MemoryDestinationForms 0xA0 .sbcDpDp .sbcDpImm .sbcIndXIndY aluSbc

/-- R351 to R354, R357 to R364. -/
def Obligations.ProcessorControlAndFlagInstructions : Prop :=
  RunsInside 0x00 1 .nop (fun r => r) ∧
    RunsInside 0xEF 2 .sleep (fun r => { r with halt := true }) ∧
    RunsInside 0xFF 2 .stop (fun r => { r with halt := true }) ∧
    RunsInside 0x9F 4 .xcn (fun r => loadIntoA r (r.a.rotateLeft 4)) ∧
    RunsInside 0x60 1 .clrc (fun r => { r with psw := { r.psw with c := false } }) ∧
    RunsInside 0x80 1 .setc (fun r => { r with psw := { r.psw with c := true } }) ∧
    RunsInside 0x20 1 .clrp (fun r => { r with psw := { r.psw with p := false } }) ∧
    RunsInside 0x40 1 .setp (fun r => { r with psw := { r.psw with p := true } }) ∧
    RunsInside 0xE0 1 .clrv (fun r => { r with psw := { r.psw with v := false, h := false } }) ∧
    RunsInside 0xED 2 .notc (fun r => { r with psw := { r.psw with c := !r.psw.c } }) ∧
    RunsInside 0xA0 2 .ei (fun r => { r with psw := { r.psw with i := true } }) ∧
    RunsInside 0xC0 2 .di (fun r => { r with psw := { r.psw with i := false } })

/-- R355, R356, R373, R374. -/
def Obligations.DecimalAdjustMultiplyAndDivideInstructions : Prop :=
  RunsInside 0xDF 2 .daa (fun r => { r with a := (aluDaa r.a r.psw).value, psw := (aluDaa r.a r.psw).psw }) ∧
    RunsInside 0xBE 2 .das (fun r => { r with a := (aluDas r.a r.psw).value, psw := (aluDas r.a r.psw).psw }) ∧
    RunsInside 0xCF 8 .mulAX (fun r =>
      let res := aluMul r.a r.x r.psw
      { r with a := wordHigh res.value, x := wordLow res.value, psw := res.psw }) ∧
    RunsInside 0x9E 11 .divAXY (fun r =>
      let res := aluDiv (wordOf r.a r.x) r.y r.psw
      { r with x := res.quo, a := res.rem, psw := res.psw })

/-- R365 to R372. -/
def Obligations.PushesAndPops : Prop :=
  (∀ e ∈ ([(0x2D, .pushA, State.a), (0x4D, .pushX, State.x), (0x6D, .pushY, State.y),
        (0x0D, .pushPsw, fun s => s.psw.toByte)] : List (Byte × Instr × (State → Byte))), ∀ s : State,
      Runs e.2.1 s { s.registers with pc := s.pc + 1, sp := s.sp - 1 }
        [.fetch s.pc e.1, .idle, .idle, .write (wordOf 0x01 s.sp) (e.2.2 s)]
        (Function.update s.memAt (wordOf 0x01 s.sp) (e.2.2 s))) ∧
    ∀ e ∈ ([(0xAE, .popA, fun r v => { r with a := v }), (0xCE, .popX, fun r v => { r with x := v }),
        (0xEE, .popY, fun r v => { r with y := v }), (0x8E, .popPsw, fun r v => { r with psw := Psw.ofByte v })] :
        List (Byte × Instr × (Registers → Byte → Registers))), ∀ s : State,
      let ea := wordOf 0x01 (s.sp + 1)
      let v := s.busAt 3 ea
      Runs e.2.1 s { e.2.2 s.registers v with pc := s.pc + 1, sp := s.sp + 1 }
        [.fetch s.pc e.1, .idle, .idle, .read ea v] s.memAt

/-- R98, R99 and R115, the bit formulas read as arithmetic. -/
def Obligations.AddAndSubtractWithCarryArithmetic : Prop :=
  (∀ (a b : Byte) (p : Psw),
      let r := aluAdc a b p
      r.value.toNat = (a.toNat + b.toNat + p.c.toNat) % 256 ∧
      (r.psw.c = true ↔ 255 < a.toNat + b.toNat + p.c.toNat) ∧
      (r.psw.v = true ↔ a.toInt + b.toInt + p.c.toNat < -128 ∨ 127 < a.toInt + b.toInt + p.c.toNat) ∧
      (r.psw.h = true ↔ 15 < a.toNat % 16 + b.toNat % 16 + p.c.toNat) ∧
      (r.psw.n = true ↔ 128 ≤ r.value.toNat) ∧ (r.psw.z = true ↔ r.value = 0) ∧
      r.psw.i = p.i ∧ r.psw.b = p.b ∧ r.psw.p = p.p) ∧
    ∀ (a b : Byte) (p : Psw),
      let r := aluSbc a b p
      let borrow := (!p.c).toNat
      (r.value.toNat : Int) = ((a.toNat : Int) - b.toNat - borrow) % 256 ∧
      (r.psw.c = true ↔ b.toNat + borrow ≤ a.toNat) ∧
      (r.psw.v = true ↔ a.toInt - b.toInt - borrow < -128 ∨ 127 < a.toInt - b.toInt - borrow) ∧
      (r.psw.h = true ↔ b.toNat % 16 + borrow ≤ a.toNat % 16) ∧
      (r.psw.n = true ↔ 128 ≤ r.value.toNat) ∧ (r.psw.z = true ↔ r.value = 0) ∧
      r.psw.i = p.i ∧ r.psw.b = p.b ∧ r.psw.p = p.p

/-- R106, R107: two chained byte steps are one 16-bit step. -/
def Obligations.WordAddAndSubtractArithmetic : Prop :=
  ∀ (a b : Word) (p : Psw),
    let s := aluAddw a b p
    let d := aluSubw a b p
    s.value = a + b ∧ d.value = a - b ∧
    (s.psw.c = true ↔ 65536 ≤ a.toNat + b.toNat) ∧ (d.psw.c = true ↔ b.toNat ≤ a.toNat) ∧
    (s.psw.v = true ↔ a.toInt + b.toInt < -32768 ∨ 32767 < a.toInt + b.toInt) ∧
    (d.psw.v = true ↔ a.toInt - b.toInt < -32768 ∨ 32767 < a.toInt - b.toInt) ∧
    (s.psw.h = true ↔ 4096 ≤ a.toNat % 4096 + b.toNat % 4096) ∧
    (d.psw.h = true ↔ b.toNat % 4096 ≤ a.toNat % 4096) ∧
    (s.psw.n = true ↔ 32768 ≤ s.value.toNat) ∧ (s.psw.z = true ↔ s.value = 0) ∧
    (d.psw.n = true ↔ 32768 ≤ d.value.toNat) ∧ (d.psw.z = true ↔ d.value = 0) ∧
    s.psw.i = p.i ∧ s.psw.b = p.b ∧ s.psw.p = p.p ∧ d.psw.i = p.i ∧ d.psw.b = p.b ∧ d.psw.p = p.p

/-- R113, with its reading. -/
def Obligations.DivideArithmetic : Prop :=
  ∀ (w : Word) (d : Byte) (p : Psw),
    let r := aluDiv w d p
    let hi := w.toNat / 256
    (r.psw.v = true ↔ d.toNat ≤ hi) ∧ (r.psw.h = true ↔ d.toNat % 16 ≤ hi % 16) ∧
    (hi < d.toNat → w.toNat = r.quo.toNat * d.toNat + r.rem.toNat ∧ r.rem.toNat < d.toNat) ∧
    (d.toNat ≤ hi → hi < 2 * d.toNat →
      r.quo.toNat = w.toNat / d.toNat % 256 ∧ r.rem.toNat = w.toNat % d.toNat) ∧
    (2 * d.toNat ≤ hi →
      r.quo.toNat + (w.toNat - 512 * d.toNat) / (256 - d.toNat) = 255 ∧
      r.rem.toNat = d.toNat + (w.toNat - 512 * d.toNat) % (256 - d.toNat)) ∧
    (d = 0 → r.quo.toNat = 255 - hi ∧ r.rem.toNat = w.toNat % 256) ∧
    (r.psw.n = true ↔ 128 ≤ r.quo.toNat) ∧ (r.psw.z = true ↔ r.quo = 0) ∧
    r.psw.c = p.c ∧ r.psw.i = p.i ∧ r.psw.b = p.b ∧ r.psw.p = p.p

/-- What the two adjusts are for: a "decimal-digit-per-nibble representation after add/subtract" (R109), with H and C as ADC and SBC leave them; and the two conditional corrections of R109 and R110 on every byte and status word. -/
def Obligations.DecimalAdjustGivesDecimalSums : Prop :=
  (∀ (x y : Nat) (p : Psw), x < 100 → y < 100 →
    let digits := fun n : Nat => BitVec.ofNat 8 (n / 10 * 16 + n % 10)
    let sum := aluAdc (digits x) (digits y) p
    let adjusted := aluDaa sum.value sum.psw
    let diff := aluSbc (digits x) (digits y) p
    let lowered := aluDas diff.value diff.psw
    let borrow := (!p.c).toNat
    adjusted.value = digits ((x + y + p.c.toNat) % 100) ∧ (adjusted.psw.c = true ↔ 100 ≤ x + y + p.c.toNat) ∧
    lowered.value = digits ((x + 100 - y - borrow) % 100) ∧ (lowered.psw.c = true ↔ y + borrow ≤ x)) ∧
    (∀ (a : Byte) (p : Psw),
      let r := aluDaa a p
      let first := if p.c = true ∨ 0x99 < a.toNat then (a.toNat + 0x60) % 256 else a.toNat
      r.value.toNat = (if p.h = true ∨ 9 < first % 16 then (first + 6) % 256 else first) ∧
      (r.psw.c = true ↔ p.c = true ∨ 0x99 < a.toNat) ∧ (p.c = true → r.psw.c = true)) ∧
    (∀ (a : Byte) (p : Psw),
      let r := aluDas a p
      let first := if p.c = false ∨ 0x99 < a.toNat then (a.toNat + 256 - 0x60) % 256 else a.toNat
      r.value.toNat = (if p.h = false ∨ 9 < first % 16 then (first + 256 - 6) % 256 else first) ∧
      (r.psw.c = false ↔ p.c = false ∨ 0x99 < a.toNat) ∧ (p.c = false → r.psw.c = false)) ∧
    ∀ f ∈ ([aluDaa, aluDas] : List (Byte → Psw → Alu8)), ∀ (a : Byte) (p : Psw),
      let r := f a p
      (r.psw.n = true ↔ 128 ≤ r.value.toNat) ∧ (r.psw.z = true ↔ r.value = 0) ∧
      r.psw.v = p.v ∧ r.psw.h = p.h ∧ r.psw.i = p.i ∧ r.psw.b = p.b ∧ r.psw.p = p.p

/-- R100 to R103 as arithmetic on the nine bits of C and the byte, R112, and the byte image of PSW in the order of R32. -/
def Obligations.ShiftsRotatesAndProducts : Prop :=
  (∀ (v : Byte) (p : Psw),
      2 * v.toNat = 256 * (aluAsl v p).psw.c.toNat + (aluAsl v p).value.toNat ∧
      v.toNat = 2 * (aluLsr v p).value.toNat + (aluLsr v p).psw.c.toNat ∧ (aluLsr v p).psw.n = false ∧
      2 * v.toNat + p.c.toNat = 256 * (aluRol v p).psw.c.toNat + (aluRol v p).value.toNat ∧
      v.toNat + 256 * p.c.toNat = 2 * (aluRor v p).value.toNat + (aluRor v p).psw.c.toNat ∧
      (aluRor (aluRol v p).value (aluRol v p).psw).value = v ∧
      (aluRor (aluRol v p).value (aluRol v p).psw).psw.c = p.c ∧
      (aluRol (aluRor v p).value (aluRor v p).psw).value = v ∧
      (aluRol (aluRor v p).value (aluRor v p).psw).psw.c = p.c) ∧
    (∀ f ∈ ([aluAsl, aluLsr, aluRol, aluRor] : List (Byte → Psw → Alu8)), ∀ (v : Byte) (p : Psw),
      let r := f v p
      (r.psw.n = true ↔ 128 ≤ r.value.toNat) ∧ (r.psw.z = true ↔ r.value = 0) ∧
      r.psw.v = p.v ∧ r.psw.h = p.h ∧ r.psw.i = p.i ∧ r.psw.b = p.b ∧ r.psw.p = p.p) ∧
    (∀ (a b : Byte) (p : Psw),
      let r := aluMul a b p
      r.value.toNat = a.toNat * b.toNat ∧
      (r.psw.n = true ↔ 32768 ≤ a.toNat * b.toNat) ∧ (r.psw.z = true ↔ a = 0 ∨ b = 0) ∧ r.psw.c = p.c ∧
      r.psw.v = p.v ∧ r.psw.h = p.h ∧ r.psw.i = p.i ∧ r.psw.b = p.b ∧ r.psw.p = p.p) ∧
    (∀ p : Psw, p.toByte.getLsbD 0 = p.c ∧ p.toByte.getLsbD 1 = p.z ∧ p.toByte.getLsbD 2 = p.i ∧
      p.toByte.getLsbD 3 = p.h ∧ p.toByte.getLsbD 4 = p.b ∧ p.toByte.getLsbD 5 = p.p ∧
      p.toByte.getLsbD 6 = p.v ∧ p.toByte.getLsbD 7 = p.n) ∧
    (∀ p : Psw, Psw.ofByte p.toByte = p) ∧ ∀ v : Byte, (Psw.ofByte v).toByte = v

/-- R90 to R97 and R108. -/
def Obligations.LogicAndCompareArithmetic : Prop :=
  (∀ (a b : Byte) (p : Psw) (j : Nat),
      (aluOr a b p).value.getLsbD j = (a.getLsbD j || b.getLsbD j) ∧
      (aluAnd a b p).value.getLsbD j = (a.getLsbD j && b.getLsbD j) ∧
      (aluEor a b p).value.getLsbD j = (a.getLsbD j != b.getLsbD j)) ∧
    (∀ f ∈ ([aluOr, aluAnd, aluEor] : List (Byte → Byte → Psw → Alu8)), ∀ (a b : Byte) (p : Psw),
      let r := f a b p
      (r.psw.n = true ↔ 128 ≤ r.value.toNat) ∧ (r.psw.z = true ↔ r.value = 0) ∧ r.psw.c = p.c ∧
      r.psw.v = p.v ∧ r.psw.h = p.h ∧ r.psw.i = p.i ∧ r.psw.b = p.b ∧ r.psw.p = p.p) ∧
    (∀ (a b : Byte) (p : Psw),
      let q := aluCmp a b p
      (q.n = true ↔ 128 ≤ (a.toNat + 256 - b.toNat) % 256) ∧ (q.z = true ↔ a = b) ∧
      (q.c = true ↔ b.toNat ≤ a.toNat) ∧ q.v = p.v ∧ q.h = p.h ∧ q.i = p.i ∧ q.b = p.b ∧ q.p = p.p) ∧
    (∀ (a b : Word) (p : Psw),
      let q := aluCmpw a b p
      (q.n = true ↔ 32768 ≤ (a.toNat + 65536 - b.toNat) % 65536) ∧ (q.z = true ↔ a = b) ∧
      (q.c = true ↔ b.toNat ≤ a.toNat) ∧ q.v = p.v ∧ q.h = p.h ∧ q.i = p.i ∧ q.b = p.b ∧ q.p = p.p) ∧
    (∀ (v : Byte) (p : Psw),
      let q := p.setNZ8 v
      (q.n = true ↔ 128 ≤ v.toNat) ∧ (q.z = true ↔ v.toNat = 0) ∧
      q.c = p.c ∧ q.v = p.v ∧ q.h = p.h ∧ q.i = p.i ∧ q.b = p.b ∧ q.p = p.p) ∧
    ∀ (w : Word) (p : Psw),
      let q := p.setNZ16 w
      (q.n = true ↔ 32768 ≤ w.toNat) ∧ (q.z = true ↔ w.toNat = 0) ∧
      q.c = p.c ∧ q.v = p.v ∧ q.h = p.h ∧ q.i = p.i ∧ q.b = p.b ∧ q.p = p.p

/-- R431. -/
def Obligations.ResetReadsItsVectorAndSetsEveryRegister : Prop :=
  ∀ s : State,
    let lo := s.busAt 0 0xFFFE
    let hi := s.busAt 1 0xFFFF
    s.resetFrom.registers =
      { a := 0x00, x := 0x00, y := 0x00, sp := 0xEF, pc := wordOf hi lo, psw := Psw.ofByte 0x02, halt := false } ∧
    s.resetFrom.trace = .read 0xFFFF hi :: .read 0xFFFE lo :: s.trace ∧
    s.resetFrom.cycles = s.cycles + 2 ∧ s.resetFrom.mem = s.mem ∧ s.resetFrom.oracle = s.oracle

/-- R430: "At power-on the cycle counter is 0, then the reset sequence runs once". -/
def Obligations.ResetStateIsPowerOnThenReset : Prop :=
  ∀ s : State, s.cycles = 0 → s.trace = [] → s.oracle = [] → s.mem = [] → s.resetFrom = State.reset

/-- R47, its table of the record byte by byte, and R414. -/
def Obligations.ExportAndImportRoundTrip : Prop :=
  (∀ s : State, s.exportRecord =
      [0x01, wordLow s.pc, wordHigh s.pc, s.a, s.x, s.y, s.sp, s.psw.toByte, if s.halt then 0x01 else 0x00, 0x00,
        0x00]) ∧
    (∀ (t : State) (pcLow pcHigh a x y sp psw halt latch0 latch1 : Byte), halt = 0x00 ∨ halt = 0x01 →
      ∃ u, t.importRecord [0x01, pcLow, pcHigh, a, x, y, sp, psw, halt, latch0, latch1] = .ok u ∧
        u.registers =
          { a := a, x := x, y := y, sp := sp, pc := wordOf pcHigh pcLow, psw := Psw.ofByte psw,
            halt := decide (halt = 0x01) } ∧
        u.cycles = t.cycles ∧ u.mem = t.mem ∧ u.trace = t.trace ∧ u.oracle = t.oracle) ∧
    (∀ s t : State, ∃ u, t.importRecord s.exportRecord = .ok u ∧ u.registers = s.registers ∧
      u.cycles = t.cycles ∧ u.mem = t.mem ∧ u.trace = t.trace ∧ u.oracle = t.oracle) ∧
    ∀ (t : State) (record : List Byte), (∃ u, t.importRecord record = .ok u) ↔
      record.length = 11 ∧ record[0]? = some 0x01 ∧ (record[8]? = some 0x00 ∨ record[8]? = some 0x01)

/-- R4, R42, R44 (e), R382. What the reader of a counter of fixed width sees at the wrap is the model's choice (log entry 7). -/
def Obligations.CycleCounterOfAnyWidthShowsStepCost : Prop :=
  ∀ (p : Parameters) (s : State), ∃ t, stepWith p s = .next t ∧ 1 ≤ cyclesBetween s t ∧ s.cycles ≤ t.cycles ∧
    (p.cycleWidth = none →
      t.cycleCounter p = s.cycleCounter p + cyclesBetween s t ∧ counterDelta p s t = cyclesBetween s t) ∧
    ∀ w, p.cycleWidth = some w →
      t.cycleCounter p = (s.cycleCounter p + cyclesBetween s t) % 2 ^ w ∧
      (cyclesBetween s t < 2 ^ w → counterDelta p s t = cyclesBetween s t)

/-- R385: "never exceeding it by more than the cost of the last instruction executed". -/
def Obligations.RunSpendsItsBudget : Prop :=
  Sys2Proof.core = coreWith Config.parameters ∧
    ∀ (p : Parameters) (budget : Int) (s : State), ∃ (k : Int) (n : Nat) (t : State),
      runBudget p budget s = .next (k, t) ∧ (coreWith p).run n s = .next t ∧
      (budget ≤ 0 → k = 0 ∧ n = 0 ∧ t = s) ∧
      (0 < budget →
        (t.cycles : Int) = s.cycles + budget + k ∧ 0 ≤ k ∧
        (∃ (m : Nat) (u : State), n = m + 1 ∧ (coreWith p).run m s = .next u ∧ stepWith p u = .next t ∧
          (u.cycles : Int) < s.cycles + budget ∧ k < cyclesBetween u t) ∧
        (s.halt = true → k = 0) ∧ (p.blkmovSlots = [] → k ≤ 11))

/-- R186, R86, R390. The modelled core has no such slot (log entry 6), so the statement is about a core given one; that the base cost is the opcode fetch and internal cycles, and that 256 passes bound the loop, is log entry 14, and that a variant may name SP is log entry 17. -/
def Obligations.BlockMoveMovesItsCountAndEnds : Prop :=
  ∀ (p : Parameters) (bm : BlockMove) (s : State), bm.wf → s.halt = false →
    p.blkmovSlots.lookup s.opcodeByte = some bm →
    let count := (s.getReg bm.cnt).toNat
    let k := if count = 0 then 256 else count
    let moved := fun (j : Nat) (v : Byte) => match bm.dir with
      | .increment => v + BitVec.ofNat 8 j
      | .decrement => v - BitVec.ofNat 8 j
    ∃ (t : State) (byte : Nat → Byte),
      let events : List BusEvent :=
        .fetch s.pc s.opcodeByte :: List.replicate (bm.base - 1) .idle ++
          (List.range k).flatMap (fun j =>
            .read (s.dp (moved j (s.getReg bm.src))) (byte j) ::
              .write (s.dp (moved j (s.getReg bm.dst))) (byte j) :: List.replicate (bm.iter - 2) .idle)
      stepWith p s = .next t ∧ t.trace = events.reverse ++ s.trace ∧
        t.cycles = s.cycles + bm.base + k * bm.iter ∧ Accounts s.oracle s.cycles s.mem events t.mem ∧
        t.oracle = s.oracle ∧ t.getReg bm.cnt = 0 ∧
        t.getReg bm.src = moved k (s.getReg bm.src) ∧ t.getReg bm.dst = moved k (s.getReg bm.dst) ∧
        (∀ q, q ≠ bm.src → q ≠ bm.dst → q ≠ bm.cnt → t.getReg q = s.getReg q) ∧
        t.psw = s.psw ∧ t.halt = false ∧ t.pc = s.pc + 1
end

