-- ==== Sys2Proof/Laws/Memory.lean ====
section
/-! SUPPORT. Memory: a read after a write, and the canonical form under every operation. -/

namespace Sys2Proof.Machine

/-- Inserting an entry makes its address read as its byte, when no other entry has that address. -/
theorem memByte_memInsert_same (m : Memory) (a : Nat) (v : Byte) (h : ∀ c ∈ m, c.1 ≠ a) :
    memByte (memInsert a v m) a = v := by
  induction m with
  | nil => simp [memInsert, memByte]
  | cons c rest ih =>
    obtain ⟨k, w⟩ := c
    have hk : k ≠ a := h (k, w) (by simp)
    have hrest : ∀ c ∈ rest, c.1 ≠ a := fun c hc => h c (by simp [hc])
    by_cases hlt : a < k
    · simp [memInsert, hlt, memByte]
    · simp [memInsert, hlt, memByte, hk, ih hrest]

/-- Inserting an entry leaves what every other address reads as. -/
theorem memByte_memInsert_other (m : Memory) {a b : Nat} (v : Byte) (h : b ≠ a) :
    memByte (memInsert a v m) b = memByte m b := by
  induction m with
  | nil => simp [memInsert, memByte, Ne.symm h]
  | cons c rest ih =>
    obtain ⟨k, w⟩ := c
    by_cases hlt : a < k
    · simp [memInsert, hlt, memByte, Ne.symm h]
    · simp [memInsert, hlt, memByte, ih]

/-- With an address's entries gone it reads as an unlisted one. -/
theorem memByte_filter_same (m : Memory) (a : Nat) :
    memByte (m.filter (fun c => c.1 != a)) a = Config.unlistedByte := by
  induction m with
  | nil => rfl
  | cons c rest ih =>
    by_cases hc : c.1 = a
    · simp [hc, ih]
    · simp [hc, memByte, ih]

/-- Taking one address's entries away leaves what every other address reads as. -/
theorem memByte_filter_other (m : Memory) {a b : Nat} (h : b ≠ a) :
    memByte (m.filter (fun c => c.1 != a)) b = memByte m b := by
  induction m with
  | nil => rfl
  | cons c rest ih =>
    by_cases hc : c.1 = a
    · have hb : c.1 ≠ b := fun e => h (e ▸ hc)
      simp [hc, memByte, ih, Ne.symm h]
    · simp [hc, memByte, ih]

/-- A byte written is the byte read. -/
@[simp] theorem memByte_memStore_same (m : Memory) (a : Nat) (v : Byte) :
    memByte (memStore m a v) a = v := by
  unfold memStore
  by_cases hv : v = Config.unlistedByte
  · simp [hv, memByte_filter_same]
  · simp only [hv, if_false]
    exact memByte_memInsert_same _ _ _ (fun c hc => by simpa using (List.mem_filter.mp hc).2)

/-- A write leaves every other address. -/
theorem memByte_memStore_other (m : Memory) {a b : Nat} (v : Byte) (h : b ≠ a) :
    memByte (memStore m a v) b = memByte m b := by
  unfold memStore
  by_cases hv : v = Config.unlistedByte
  · simp [hv, memByte_filter_other m h]
  · simp only [hv, if_false]
    rw [memByte_memInsert_other _ _ h, memByte_filter_other m h]

/-- What a write does to what every address reads as. -/
theorem memByte_memStore (m : Memory) (a b : Word) (v : Byte) :
    memByte (memStore m a.toNat v) b.toNat = if b = a then v else memByte m b.toNat := by
  by_cases h : b = a
  · simp [h]
  · simp only [h, if_false]
    exact memByte_memStore_other m v (fun e => h (BitVec.eq_of_toNat_eq e))

/-- Reading after a write, at the level of the state (R59 (e)). -/
@[simp] theorem State.memAt_write (s : State) (a : Word) (v : Byte) :
    (s.write a v).memAt = Function.update s.memAt a v := by
  funext b
  simp only [State.memAt, State.write, memByte_memStore, Function.update_apply]

/-- The entries an insertion leaves: the new one and the old ones. -/
theorem mem_memInsert (m : Memory) (a : Nat) (v : Byte) (c : Host.Cell) :
    c ∈ memInsert a v m ↔ c = (a, v) ∨ c ∈ m := by
  induction m with
  | nil => simp [memInsert]
  | cons d rest ih =>
    obtain ⟨k, w⟩ := d
    by_cases hlt : a < k
    · simp [memInsert, hlt]
    · simp only [memInsert, hlt, if_false, List.mem_cons, ih]
      tauto

/-- An insertion keeps the addresses rising, when the new address is not listed. -/
theorem pairwise_memInsert (m : Memory) (a : Nat) (v : Byte)
    (hm : m.Pairwise (fun c d => c.1 < d.1)) (ha : ∀ c ∈ m, c.1 ≠ a) :
    (memInsert a v m).Pairwise (fun c d => c.1 < d.1) := by
  induction m with
  | nil => simp [memInsert]
  | cons d rest ih =>
    obtain ⟨k, w⟩ := d
    have hrise := List.pairwise_cons.mp hm
    by_cases hlt : a < k
    · simp only [memInsert, hlt, if_true]
      refine List.pairwise_cons.mpr ⟨fun c hc => ?_, hm⟩
      rcases List.mem_cons.mp hc with rfl | hc
      · exact hlt
      · exact lt_trans hlt (hrise.1 c hc)
    · simp only [memInsert, hlt, if_false]
      refine List.pairwise_cons.mpr ⟨fun c hc => ?_, ih hrise.2 (fun c hc => ha c (by simp [hc]))⟩
      rcases (mem_memInsert rest a v c).mp hc with rfl | hc
      · have : k ≠ a := ha (k, w) (by simp)
        show k < a
        omega
      · exact hrise.1 c hc

/-- A memory that lists nothing is in canonical form. -/
theorem Memory.wf_nil : Memory.wf [] := by
  refine ⟨List.Pairwise.nil, fun c hc => ?_⟩
  cases hc

/-- A write keeps the canonical form. -/
theorem Memory.wf_memStore (m : Memory) (a : Word) (v : Byte) (h : Memory.wf m) :
    Memory.wf (memStore m a.toNat v) := by
  have hfilter : Memory.wf (m.filter (fun c => c.1 != a.toNat)) :=
    ⟨h.1.filter _, fun c hc => h.2 c (List.mem_filter.mp hc).1⟩
  have hgone : ∀ c ∈ m.filter (fun c => c.1 != a.toNat), c.1 ≠ a.toNat :=
    fun c hc => by simpa using (List.mem_filter.mp hc).2
  unfold memStore
  by_cases hv : v = Config.unlistedByte
  · simpa [hv] using hfilter
  · simp only [hv, if_false]
    refine ⟨pairwise_memInsert _ _ _ hfilter.1 hgone, fun c hc => ?_⟩
    rcases (mem_memInsert _ _ _ c).mp hc with rfl | hc
    · exact ⟨a.isLt, hv⟩
    · exact hfilter.2 c hc

/-- Memory after reset is in canonical form. -/
theorem Memory.wf_reset : Memory.wf State.reset.mem := Memory.wf_nil

end Sys2Proof.Machine
end

