-- ==== Sys2Proof/Laws/State.lean ====
section
/-! SUPPORT. What each basic operation does to each field of the state: one lemma for each field of each operation, so
that no proof unfolds a record update. -/

namespace Sys2Proof.Machine

variable (s : State)

/-! ### `tick` -/

@[simp] theorem State.tick_a (e : BusEvent) : (s.tick e).a = s.a := rfl
@[simp] theorem State.tick_x (e : BusEvent) : (s.tick e).x = s.x := rfl
@[simp] theorem State.tick_y (e : BusEvent) : (s.tick e).y = s.y := rfl
@[simp] theorem State.tick_sp (e : BusEvent) : (s.tick e).sp = s.sp := rfl
@[simp] theorem State.tick_pc (e : BusEvent) : (s.tick e).pc = s.pc := rfl
@[simp] theorem State.tick_psw (e : BusEvent) : (s.tick e).psw = s.psw := rfl
@[simp] theorem State.tick_halt (e : BusEvent) : (s.tick e).halt = s.halt := rfl
@[simp] theorem State.tick_cycles (e : BusEvent) : (s.tick e).cycles = s.cycles + 1 := rfl
@[simp] theorem State.tick_latch0 (e : BusEvent) : (s.tick e).latch0 = s.latch0 := rfl
@[simp] theorem State.tick_latch1 (e : BusEvent) : (s.tick e).latch1 = s.latch1 := rfl
@[simp] theorem State.tick_latch2 (e : BusEvent) : (s.tick e).latch2 = s.latch2 := rfl
@[simp] theorem State.tick_mem (e : BusEvent) : (s.tick e).mem = s.mem := rfl
@[simp] theorem State.tick_trace (e : BusEvent) : (s.tick e).trace = e :: s.trace := rfl
@[simp] theorem State.tick_oracle (e : BusEvent) : (s.tick e).oracle = s.oracle := rfl

/-! ### `idle` -/

@[simp] theorem State.idle_a : (s.idle).a = s.a := rfl
@[simp] theorem State.idle_x : (s.idle).x = s.x := rfl
@[simp] theorem State.idle_y : (s.idle).y = s.y := rfl
@[simp] theorem State.idle_sp : (s.idle).sp = s.sp := rfl
@[simp] theorem State.idle_pc : (s.idle).pc = s.pc := rfl
@[simp] theorem State.idle_psw : (s.idle).psw = s.psw := rfl
@[simp] theorem State.idle_halt : (s.idle).halt = s.halt := rfl
@[simp] theorem State.idle_cycles : (s.idle).cycles = s.cycles + 1 := rfl
@[simp] theorem State.idle_latch0 : (s.idle).latch0 = s.latch0 := rfl
@[simp] theorem State.idle_latch1 : (s.idle).latch1 = s.latch1 := rfl
@[simp] theorem State.idle_latch2 : (s.idle).latch2 = s.latch2 := rfl
@[simp] theorem State.idle_mem : (s.idle).mem = s.mem := rfl
@[simp] theorem State.idle_trace : (s.idle).trace = .idle :: s.trace := rfl
@[simp] theorem State.idle_oracle : (s.idle).oracle = s.oracle := rfl

/-! ### `idles` -/

@[simp] theorem State.idles_a (n : Nat) : (s.idles n).a = s.a := rfl
@[simp] theorem State.idles_x (n : Nat) : (s.idles n).x = s.x := rfl
@[simp] theorem State.idles_y (n : Nat) : (s.idles n).y = s.y := rfl
@[simp] theorem State.idles_sp (n : Nat) : (s.idles n).sp = s.sp := rfl
@[simp] theorem State.idles_pc (n : Nat) : (s.idles n).pc = s.pc := rfl
@[simp] theorem State.idles_psw (n : Nat) : (s.idles n).psw = s.psw := rfl
@[simp] theorem State.idles_halt (n : Nat) : (s.idles n).halt = s.halt := rfl
@[simp] theorem State.idles_cycles (n : Nat) : (s.idles n).cycles = s.cycles + n := rfl
@[simp] theorem State.idles_latch0 (n : Nat) : (s.idles n).latch0 = s.latch0 := rfl
@[simp] theorem State.idles_latch1 (n : Nat) : (s.idles n).latch1 = s.latch1 := rfl
@[simp] theorem State.idles_latch2 (n : Nat) : (s.idles n).latch2 = s.latch2 := rfl
@[simp] theorem State.idles_mem (n : Nat) : (s.idles n).mem = s.mem := rfl
@[simp] theorem State.idles_trace (n : Nat) : (s.idles n).trace = List.replicate n .idle ++ s.trace := rfl
@[simp] theorem State.idles_oracle (n : Nat) : (s.idles n).oracle = s.oracle := rfl

/-! ### `read` -/

@[simp] theorem State.read_a (a : Word) : (s.read a).a = s.a := rfl
@[simp] theorem State.read_x (a : Word) : (s.read a).x = s.x := rfl
@[simp] theorem State.read_y (a : Word) : (s.read a).y = s.y := rfl
@[simp] theorem State.read_sp (a : Word) : (s.read a).sp = s.sp := rfl
@[simp] theorem State.read_pc (a : Word) : (s.read a).pc = s.pc := rfl
@[simp] theorem State.read_psw (a : Word) : (s.read a).psw = s.psw := rfl
@[simp] theorem State.read_halt (a : Word) : (s.read a).halt = s.halt := rfl
@[simp] theorem State.read_cycles (a : Word) : (s.read a).cycles = s.cycles + 1 := rfl
@[simp] theorem State.read_latch0 (a : Word) : (s.read a).latch0 = s.latch0 := rfl
@[simp] theorem State.read_latch1 (a : Word) : (s.read a).latch1 = s.latch1 := rfl
@[simp] theorem State.read_latch2 (a : Word) : (s.read a).latch2 = s.bus a := rfl
@[simp] theorem State.read_mem (a : Word) : (s.read a).mem = s.mem := rfl
@[simp] theorem State.read_trace (a : Word) : (s.read a).trace = .read a (s.bus a) :: s.trace := rfl
@[simp] theorem State.read_oracle (a : Word) : (s.read a).oracle = s.oracle := rfl

/-! ### `discardRead` -/

@[simp] theorem State.discardRead_a (a : Word) : (s.discardRead a).a = s.a := rfl
@[simp] theorem State.discardRead_x (a : Word) : (s.discardRead a).x = s.x := rfl
@[simp] theorem State.discardRead_y (a : Word) : (s.discardRead a).y = s.y := rfl
@[simp] theorem State.discardRead_sp (a : Word) : (s.discardRead a).sp = s.sp := rfl
@[simp] theorem State.discardRead_pc (a : Word) : (s.discardRead a).pc = s.pc := rfl
@[simp] theorem State.discardRead_psw (a : Word) : (s.discardRead a).psw = s.psw := rfl
@[simp] theorem State.discardRead_halt (a : Word) : (s.discardRead a).halt = s.halt := rfl
@[simp] theorem State.discardRead_cycles (a : Word) : (s.discardRead a).cycles = s.cycles + 1 := rfl
@[simp] theorem State.discardRead_latch0 (a : Word) : (s.discardRead a).latch0 = s.latch0 := rfl
@[simp] theorem State.discardRead_latch1 (a : Word) : (s.discardRead a).latch1 = s.latch1 := rfl
@[simp] theorem State.discardRead_latch2 (a : Word) : (s.discardRead a).latch2 = s.latch2 := rfl
@[simp] theorem State.discardRead_mem (a : Word) : (s.discardRead a).mem = s.mem := rfl
@[simp] theorem State.discardRead_trace (a : Word) : (s.discardRead a).trace = .discard a (s.bus a) :: s.trace := rfl
@[simp] theorem State.discardRead_oracle (a : Word) : (s.discardRead a).oracle = s.oracle := rfl

/-! ### `write` -/

@[simp] theorem State.write_a (a : Word) (v : Byte) : (s.write a v).a = s.a := rfl
@[simp] theorem State.write_x (a : Word) (v : Byte) : (s.write a v).x = s.x := rfl
@[simp] theorem State.write_y (a : Word) (v : Byte) : (s.write a v).y = s.y := rfl
@[simp] theorem State.write_sp (a : Word) (v : Byte) : (s.write a v).sp = s.sp := rfl
@[simp] theorem State.write_pc (a : Word) (v : Byte) : (s.write a v).pc = s.pc := rfl
@[simp] theorem State.write_psw (a : Word) (v : Byte) : (s.write a v).psw = s.psw := rfl
@[simp] theorem State.write_halt (a : Word) (v : Byte) : (s.write a v).halt = s.halt := rfl
@[simp] theorem State.write_cycles (a : Word) (v : Byte) : (s.write a v).cycles = s.cycles + 1 := rfl
@[simp] theorem State.write_latch0 (a : Word) (v : Byte) : (s.write a v).latch0 = s.latch0 := rfl
@[simp] theorem State.write_latch1 (a : Word) (v : Byte) : (s.write a v).latch1 = s.latch1 := rfl
@[simp] theorem State.write_latch2 (a : Word) (v : Byte) : (s.write a v).latch2 = s.latch2 := rfl
@[simp] theorem State.write_mem (a : Word) (v : Byte) : (s.write a v).mem = memStore s.mem a.toNat v := rfl
@[simp] theorem State.write_trace (a : Word) (v : Byte) : (s.write a v).trace = .write a v :: s.trace := rfl
@[simp] theorem State.write_oracle (a : Word) (v : Byte) : (s.write a v).oracle = s.oracle := rfl

/-! ### `fetchOpcode` -/

@[simp] theorem State.fetchOpcode_a (op : Byte) : (s.fetchOpcode op).a = s.a := rfl
@[simp] theorem State.fetchOpcode_x (op : Byte) : (s.fetchOpcode op).x = s.x := rfl
@[simp] theorem State.fetchOpcode_y (op : Byte) : (s.fetchOpcode op).y = s.y := rfl
@[simp] theorem State.fetchOpcode_sp (op : Byte) : (s.fetchOpcode op).sp = s.sp := rfl
@[simp] theorem State.fetchOpcode_pc (op : Byte) : (s.fetchOpcode op).pc = s.pc + 1 := rfl
@[simp] theorem State.fetchOpcode_psw (op : Byte) : (s.fetchOpcode op).psw = s.psw := rfl
@[simp] theorem State.fetchOpcode_halt (op : Byte) : (s.fetchOpcode op).halt = s.halt := rfl
@[simp] theorem State.fetchOpcode_cycles (op : Byte) : (s.fetchOpcode op).cycles = s.cycles + 1 := rfl
@[simp] theorem State.fetchOpcode_latch0 (op : Byte) : (s.fetchOpcode op).latch0 = s.latch0 := rfl
@[simp] theorem State.fetchOpcode_latch1 (op : Byte) : (s.fetchOpcode op).latch1 = s.latch1 := rfl
@[simp] theorem State.fetchOpcode_latch2 (op : Byte) : (s.fetchOpcode op).latch2 = s.latch2 := rfl
@[simp] theorem State.fetchOpcode_mem (op : Byte) : (s.fetchOpcode op).mem = s.mem := rfl
@[simp] theorem State.fetchOpcode_trace (op : Byte) : (s.fetchOpcode op).trace = .fetch s.pc op :: s.trace := rfl
@[simp] theorem State.fetchOpcode_oracle (op : Byte) : (s.fetchOpcode op).oracle = s.oracle := rfl

/-! ### `fetchOperand1` -/

@[simp] theorem State.fetchOperand1_a (v : Byte) : (s.fetchOperand1 v).a = s.a := rfl
@[simp] theorem State.fetchOperand1_x (v : Byte) : (s.fetchOperand1 v).x = s.x := rfl
@[simp] theorem State.fetchOperand1_y (v : Byte) : (s.fetchOperand1 v).y = s.y := rfl
@[simp] theorem State.fetchOperand1_sp (v : Byte) : (s.fetchOperand1 v).sp = s.sp := rfl
@[simp] theorem State.fetchOperand1_pc (v : Byte) : (s.fetchOperand1 v).pc = s.pc + 1 := rfl
@[simp] theorem State.fetchOperand1_psw (v : Byte) : (s.fetchOperand1 v).psw = s.psw := rfl
@[simp] theorem State.fetchOperand1_halt (v : Byte) : (s.fetchOperand1 v).halt = s.halt := rfl
@[simp] theorem State.fetchOperand1_cycles (v : Byte) : (s.fetchOperand1 v).cycles = s.cycles + 1 := rfl
@[simp] theorem State.fetchOperand1_latch0 (v : Byte) : (s.fetchOperand1 v).latch0 = v := rfl
@[simp] theorem State.fetchOperand1_latch1 (v : Byte) : (s.fetchOperand1 v).latch1 = s.latch1 := rfl
@[simp] theorem State.fetchOperand1_latch2 (v : Byte) : (s.fetchOperand1 v).latch2 = s.latch2 := rfl
@[simp] theorem State.fetchOperand1_mem (v : Byte) : (s.fetchOperand1 v).mem = s.mem := rfl
@[simp] theorem State.fetchOperand1_trace (v : Byte) : (s.fetchOperand1 v).trace = .fetch s.pc v :: s.trace := rfl
@[simp] theorem State.fetchOperand1_oracle (v : Byte) : (s.fetchOperand1 v).oracle = s.oracle := rfl

/-! ### `fetchOperand2` -/

@[simp] theorem State.fetchOperand2_a (v : Byte) : (s.fetchOperand2 v).a = s.a := rfl
@[simp] theorem State.fetchOperand2_x (v : Byte) : (s.fetchOperand2 v).x = s.x := rfl
@[simp] theorem State.fetchOperand2_y (v : Byte) : (s.fetchOperand2 v).y = s.y := rfl
@[simp] theorem State.fetchOperand2_sp (v : Byte) : (s.fetchOperand2 v).sp = s.sp := rfl
@[simp] theorem State.fetchOperand2_pc (v : Byte) : (s.fetchOperand2 v).pc = s.pc + 1 := rfl
@[simp] theorem State.fetchOperand2_psw (v : Byte) : (s.fetchOperand2 v).psw = s.psw := rfl
@[simp] theorem State.fetchOperand2_halt (v : Byte) : (s.fetchOperand2 v).halt = s.halt := rfl
@[simp] theorem State.fetchOperand2_cycles (v : Byte) : (s.fetchOperand2 v).cycles = s.cycles + 1 := rfl
@[simp] theorem State.fetchOperand2_latch0 (v : Byte) : (s.fetchOperand2 v).latch0 = s.latch0 := rfl
@[simp] theorem State.fetchOperand2_latch1 (v : Byte) : (s.fetchOperand2 v).latch1 = v := rfl
@[simp] theorem State.fetchOperand2_latch2 (v : Byte) : (s.fetchOperand2 v).latch2 = s.latch2 := rfl
@[simp] theorem State.fetchOperand2_mem (v : Byte) : (s.fetchOperand2 v).mem = s.mem := rfl
@[simp] theorem State.fetchOperand2_trace (v : Byte) : (s.fetchOperand2 v).trace = .fetch s.pc v :: s.trace := rfl
@[simp] theorem State.fetchOperand2_oracle (v : Byte) : (s.fetchOperand2 v).oracle = s.oracle := rfl

/-! ### `setAX` -/

@[simp] theorem State.setAX_a (w : Word) : (s.setAX w).a = wordHigh w := rfl
@[simp] theorem State.setAX_x (w : Word) : (s.setAX w).x = wordLow w := rfl
@[simp] theorem State.setAX_y (w : Word) : (s.setAX w).y = s.y := rfl
@[simp] theorem State.setAX_sp (w : Word) : (s.setAX w).sp = s.sp := rfl
@[simp] theorem State.setAX_pc (w : Word) : (s.setAX w).pc = s.pc := rfl
@[simp] theorem State.setAX_psw (w : Word) : (s.setAX w).psw = s.psw := rfl
@[simp] theorem State.setAX_halt (w : Word) : (s.setAX w).halt = s.halt := rfl
@[simp] theorem State.setAX_cycles (w : Word) : (s.setAX w).cycles = s.cycles := rfl
@[simp] theorem State.setAX_latch0 (w : Word) : (s.setAX w).latch0 = s.latch0 := rfl
@[simp] theorem State.setAX_latch1 (w : Word) : (s.setAX w).latch1 = s.latch1 := rfl
@[simp] theorem State.setAX_latch2 (w : Word) : (s.setAX w).latch2 = s.latch2 := rfl
@[simp] theorem State.setAX_mem (w : Word) : (s.setAX w).mem = s.mem := rfl
@[simp] theorem State.setAX_trace (w : Word) : (s.setAX w).trace = s.trace := rfl
@[simp] theorem State.setAX_oracle (w : Word) : (s.setAX w).oracle = s.oracle := rfl

/-! ### `loadA` -/

@[simp] theorem State.loadA_a (v : Byte) : (s.loadA v).a = v := rfl
@[simp] theorem State.loadA_x (v : Byte) : (s.loadA v).x = s.x := rfl
@[simp] theorem State.loadA_y (v : Byte) : (s.loadA v).y = s.y := rfl
@[simp] theorem State.loadA_sp (v : Byte) : (s.loadA v).sp = s.sp := rfl
@[simp] theorem State.loadA_pc (v : Byte) : (s.loadA v).pc = s.pc := rfl
@[simp] theorem State.loadA_psw (v : Byte) : (s.loadA v).psw = s.psw.setNZ8 v := rfl
@[simp] theorem State.loadA_halt (v : Byte) : (s.loadA v).halt = s.halt := rfl
@[simp] theorem State.loadA_cycles (v : Byte) : (s.loadA v).cycles = s.cycles := rfl
@[simp] theorem State.loadA_latch0 (v : Byte) : (s.loadA v).latch0 = s.latch0 := rfl
@[simp] theorem State.loadA_latch1 (v : Byte) : (s.loadA v).latch1 = s.latch1 := rfl
@[simp] theorem State.loadA_latch2 (v : Byte) : (s.loadA v).latch2 = s.latch2 := rfl
@[simp] theorem State.loadA_mem (v : Byte) : (s.loadA v).mem = s.mem := rfl
@[simp] theorem State.loadA_trace (v : Byte) : (s.loadA v).trace = s.trace := rfl
@[simp] theorem State.loadA_oracle (v : Byte) : (s.loadA v).oracle = s.oracle := rfl

/-! ### `loadX` -/

@[simp] theorem State.loadX_a (v : Byte) : (s.loadX v).a = s.a := rfl
@[simp] theorem State.loadX_x (v : Byte) : (s.loadX v).x = v := rfl
@[simp] theorem State.loadX_y (v : Byte) : (s.loadX v).y = s.y := rfl
@[simp] theorem State.loadX_sp (v : Byte) : (s.loadX v).sp = s.sp := rfl
@[simp] theorem State.loadX_pc (v : Byte) : (s.loadX v).pc = s.pc := rfl
@[simp] theorem State.loadX_psw (v : Byte) : (s.loadX v).psw = s.psw.setNZ8 v := rfl
@[simp] theorem State.loadX_halt (v : Byte) : (s.loadX v).halt = s.halt := rfl
@[simp] theorem State.loadX_cycles (v : Byte) : (s.loadX v).cycles = s.cycles := rfl
@[simp] theorem State.loadX_latch0 (v : Byte) : (s.loadX v).latch0 = s.latch0 := rfl
@[simp] theorem State.loadX_latch1 (v : Byte) : (s.loadX v).latch1 = s.latch1 := rfl
@[simp] theorem State.loadX_latch2 (v : Byte) : (s.loadX v).latch2 = s.latch2 := rfl
@[simp] theorem State.loadX_mem (v : Byte) : (s.loadX v).mem = s.mem := rfl
@[simp] theorem State.loadX_trace (v : Byte) : (s.loadX v).trace = s.trace := rfl
@[simp] theorem State.loadX_oracle (v : Byte) : (s.loadX v).oracle = s.oracle := rfl

/-! ### `loadY` -/

@[simp] theorem State.loadY_a (v : Byte) : (s.loadY v).a = s.a := rfl
@[simp] theorem State.loadY_x (v : Byte) : (s.loadY v).x = s.x := rfl
@[simp] theorem State.loadY_y (v : Byte) : (s.loadY v).y = v := rfl
@[simp] theorem State.loadY_sp (v : Byte) : (s.loadY v).sp = s.sp := rfl
@[simp] theorem State.loadY_pc (v : Byte) : (s.loadY v).pc = s.pc := rfl
@[simp] theorem State.loadY_psw (v : Byte) : (s.loadY v).psw = s.psw.setNZ8 v := rfl
@[simp] theorem State.loadY_halt (v : Byte) : (s.loadY v).halt = s.halt := rfl
@[simp] theorem State.loadY_cycles (v : Byte) : (s.loadY v).cycles = s.cycles := rfl
@[simp] theorem State.loadY_latch0 (v : Byte) : (s.loadY v).latch0 = s.latch0 := rfl
@[simp] theorem State.loadY_latch1 (v : Byte) : (s.loadY v).latch1 = s.latch1 := rfl
@[simp] theorem State.loadY_latch2 (v : Byte) : (s.loadY v).latch2 = s.latch2 := rfl
@[simp] theorem State.loadY_mem (v : Byte) : (s.loadY v).mem = s.mem := rfl
@[simp] theorem State.loadY_trace (v : Byte) : (s.loadY v).trace = s.trace := rfl
@[simp] theorem State.loadY_oracle (v : Byte) : (s.loadY v).oracle = s.oracle := rfl

/-! ### `raiseSp` -/

@[simp] theorem State.raiseSp_a : (s.raiseSp).a = s.a := rfl
@[simp] theorem State.raiseSp_x : (s.raiseSp).x = s.x := rfl
@[simp] theorem State.raiseSp_y : (s.raiseSp).y = s.y := rfl
@[simp] theorem State.raiseSp_sp : (s.raiseSp).sp = s.sp + 1 := rfl
@[simp] theorem State.raiseSp_pc : (s.raiseSp).pc = s.pc := rfl
@[simp] theorem State.raiseSp_psw : (s.raiseSp).psw = s.psw := rfl
@[simp] theorem State.raiseSp_halt : (s.raiseSp).halt = s.halt := rfl
@[simp] theorem State.raiseSp_cycles : (s.raiseSp).cycles = s.cycles := rfl
@[simp] theorem State.raiseSp_latch0 : (s.raiseSp).latch0 = s.latch0 := rfl
@[simp] theorem State.raiseSp_latch1 : (s.raiseSp).latch1 = s.latch1 := rfl
@[simp] theorem State.raiseSp_latch2 : (s.raiseSp).latch2 = s.latch2 := rfl
@[simp] theorem State.raiseSp_mem : (s.raiseSp).mem = s.mem := rfl
@[simp] theorem State.raiseSp_trace : (s.raiseSp).trace = s.trace := rfl
@[simp] theorem State.raiseSp_oracle : (s.raiseSp).oracle = s.oracle := rfl

/-! ### `push` -/

@[simp] theorem State.push_a (v : Byte) : (s.push v).a = s.a := rfl
@[simp] theorem State.push_x (v : Byte) : (s.push v).x = s.x := rfl
@[simp] theorem State.push_y (v : Byte) : (s.push v).y = s.y := rfl
@[simp] theorem State.push_sp (v : Byte) : (s.push v).sp = s.sp - 1 := rfl
@[simp] theorem State.push_pc (v : Byte) : (s.push v).pc = s.pc := rfl
@[simp] theorem State.push_psw (v : Byte) : (s.push v).psw = s.psw := rfl
@[simp] theorem State.push_halt (v : Byte) : (s.push v).halt = s.halt := rfl
@[simp] theorem State.push_cycles (v : Byte) : (s.push v).cycles = s.cycles + 1 := rfl
@[simp] theorem State.push_latch0 (v : Byte) : (s.push v).latch0 = s.latch0 := rfl
@[simp] theorem State.push_latch1 (v : Byte) : (s.push v).latch1 = s.latch1 := rfl
@[simp] theorem State.push_latch2 (v : Byte) : (s.push v).latch2 = s.latch2 := rfl
@[simp] theorem State.push_mem (v : Byte) : (s.push v).mem = memStore s.mem s.stackAddr.toNat v := rfl
@[simp] theorem State.push_trace (v : Byte) : (s.push v).trace = .write s.stackAddr v :: s.trace := rfl
@[simp] theorem State.push_oracle (v : Byte) : (s.push v).oracle = s.oracle := rfl

/-! ### `combineA` -/

@[simp] theorem State.combineA_a (f : Byte → Byte → Psw → Alu8) (v : Byte) : (s.combineA f v).a = (f s.a v s.psw).value := rfl
@[simp] theorem State.combineA_x (f : Byte → Byte → Psw → Alu8) (v : Byte) : (s.combineA f v).x = s.x := rfl
@[simp] theorem State.combineA_y (f : Byte → Byte → Psw → Alu8) (v : Byte) : (s.combineA f v).y = s.y := rfl
@[simp] theorem State.combineA_sp (f : Byte → Byte → Psw → Alu8) (v : Byte) : (s.combineA f v).sp = s.sp := rfl
@[simp] theorem State.combineA_pc (f : Byte → Byte → Psw → Alu8) (v : Byte) : (s.combineA f v).pc = s.pc := rfl
@[simp] theorem State.combineA_psw (f : Byte → Byte → Psw → Alu8) (v : Byte) : (s.combineA f v).psw = (f s.a v s.psw).psw := rfl
@[simp] theorem State.combineA_halt (f : Byte → Byte → Psw → Alu8) (v : Byte) : (s.combineA f v).halt = s.halt := rfl
@[simp] theorem State.combineA_cycles (f : Byte → Byte → Psw → Alu8) (v : Byte) : (s.combineA f v).cycles = s.cycles := rfl
@[simp] theorem State.combineA_latch0 (f : Byte → Byte → Psw → Alu8) (v : Byte) : (s.combineA f v).latch0 = s.latch0 := rfl
@[simp] theorem State.combineA_latch1 (f : Byte → Byte → Psw → Alu8) (v : Byte) : (s.combineA f v).latch1 = s.latch1 := rfl
@[simp] theorem State.combineA_latch2 (f : Byte → Byte → Psw → Alu8) (v : Byte) : (s.combineA f v).latch2 = s.latch2 := rfl
@[simp] theorem State.combineA_mem (f : Byte → Byte → Psw → Alu8) (v : Byte) : (s.combineA f v).mem = s.mem := rfl
@[simp] theorem State.combineA_trace (f : Byte → Byte → Psw → Alu8) (v : Byte) : (s.combineA f v).trace = s.trace := rfl
@[simp] theorem State.combineA_oracle (f : Byte → Byte → Psw → Alu8) (v : Byte) : (s.combineA f v).oracle = s.oracle := rfl

/-! ### `compare` -/

@[simp] theorem State.compare_a (r v : Byte) : (s.compare r v).a = s.a := rfl
@[simp] theorem State.compare_x (r v : Byte) : (s.compare r v).x = s.x := rfl
@[simp] theorem State.compare_y (r v : Byte) : (s.compare r v).y = s.y := rfl
@[simp] theorem State.compare_sp (r v : Byte) : (s.compare r v).sp = s.sp := rfl
@[simp] theorem State.compare_pc (r v : Byte) : (s.compare r v).pc = s.pc := rfl
@[simp] theorem State.compare_psw (r v : Byte) : (s.compare r v).psw = aluCmp r v s.psw := rfl
@[simp] theorem State.compare_halt (r v : Byte) : (s.compare r v).halt = s.halt := rfl
@[simp] theorem State.compare_cycles (r v : Byte) : (s.compare r v).cycles = s.cycles := rfl
@[simp] theorem State.compare_latch0 (r v : Byte) : (s.compare r v).latch0 = s.latch0 := rfl
@[simp] theorem State.compare_latch1 (r v : Byte) : (s.compare r v).latch1 = s.latch1 := rfl
@[simp] theorem State.compare_latch2 (r v : Byte) : (s.compare r v).latch2 = s.latch2 := rfl
@[simp] theorem State.compare_mem (r v : Byte) : (s.compare r v).mem = s.mem := rfl
@[simp] theorem State.compare_trace (r v : Byte) : (s.compare r v).trace = s.trace := rfl
@[simp] theorem State.compare_oracle (r v : Byte) : (s.compare r v).oracle = s.oracle := rfl

/-! ### `setReg` -/

@[simp] theorem State.setReg_a (r : RegIndex) (v : Byte) :
    (s.setReg r v).a = if r = .a then v else s.a := by
  cases r <;> rfl
@[simp] theorem State.setReg_x (r : RegIndex) (v : Byte) :
    (s.setReg r v).x = if r = .x then v else s.x := by
  cases r <;> rfl
@[simp] theorem State.setReg_y (r : RegIndex) (v : Byte) :
    (s.setReg r v).y = if r = .y then v else s.y := by
  cases r <;> rfl
@[simp] theorem State.setReg_sp (r : RegIndex) (v : Byte) :
    (s.setReg r v).sp = if r = .sp then v else s.sp := by
  cases r <;> rfl
@[simp] theorem State.setReg_pc (r : RegIndex) (v : Byte) : (s.setReg r v).pc = s.pc := by
  cases r <;> rfl
@[simp] theorem State.setReg_psw (r : RegIndex) (v : Byte) : (s.setReg r v).psw = s.psw := by
  cases r <;> rfl
@[simp] theorem State.setReg_halt (r : RegIndex) (v : Byte) : (s.setReg r v).halt = s.halt := by
  cases r <;> rfl
@[simp] theorem State.setReg_cycles (r : RegIndex) (v : Byte) : (s.setReg r v).cycles = s.cycles := by
  cases r <;> rfl
@[simp] theorem State.setReg_latch0 (r : RegIndex) (v : Byte) : (s.setReg r v).latch0 = s.latch0 := by
  cases r <;> rfl
@[simp] theorem State.setReg_latch1 (r : RegIndex) (v : Byte) : (s.setReg r v).latch1 = s.latch1 := by
  cases r <;> rfl
@[simp] theorem State.setReg_latch2 (r : RegIndex) (v : Byte) : (s.setReg r v).latch2 = s.latch2 := by
  cases r <;> rfl
@[simp] theorem State.setReg_mem (r : RegIndex) (v : Byte) : (s.setReg r v).mem = s.mem := by
  cases r <;> rfl
@[simp] theorem State.setReg_trace (r : RegIndex) (v : Byte) : (s.setReg r v).trace = s.trace := by
  cases r <;> rfl
@[simp] theorem State.setReg_oracle (r : RegIndex) (v : Byte) : (s.setReg r v).oracle = s.oracle := by
  cases r <;> rfl

/-- A register written reads back (R24, R25). -/
@[simp] theorem State.getReg_setReg_same (r : RegIndex) (v : Byte) : (s.setReg r v).getReg r = v := by
  cases r <;> rfl

/-- A write to one register leaves the others (R25). -/
theorem State.getReg_setReg_other {r q : RegIndex} (v : Byte) (h : q ≠ r) :
    (s.setReg r v).getReg q = s.getReg q := by
  cases r <;> cases q <;> first | rfl | exact absurd rfl h

end Sys2Proof.Machine
end

