-- ==== Sys2Proof/Laws/Words.lean ====
section
/-! SUPPORT. Words and their bytes, the bit operand, and the status word and its byte. -/

namespace Sys2Proof

/-- The value of a word made of two bytes (R52). -/
theorem toNat_wordOf (hi lo : Byte) : (wordOf hi lo).toNat = hi.toNat * 256 + lo.toNat := by
  rw [wordOf, BitVec.toNat_append, ← Nat.shiftLeft_add_eq_or_of_lt lo.isLt, Nat.shiftLeft_eq]

theorem toNat_wordLow (w : Word) : (wordLow w).toNat = w.toNat % 256 := by
  simp [wordLow, BitVec.extractLsb'_toNat]

theorem toNat_wordHigh (w : Word) : (wordHigh w).toNat = w.toNat / 256 := by
  have := w.isLt
  rw [wordHigh, BitVec.extractLsb'_toNat, Nat.shiftRight_eq_div_pow]
  omega

/-- A word's bytes make the word (R52). -/
@[simp] theorem wordOf_high_low (w : Word) : wordOf (wordHigh w) (wordLow w) = w := by
  apply BitVec.eq_of_toNat_eq
  rw [toNat_wordOf, toNat_wordHigh, toNat_wordLow]
  omega

@[simp] theorem wordLow_wordOf (hi lo : Byte) : wordLow (wordOf hi lo) = lo := by
  apply BitVec.eq_of_toNat_eq
  rw [toNat_wordLow, toNat_wordOf]
  have := lo.isLt
  omega

@[simp] theorem wordHigh_wordOf (hi lo : Byte) : wordHigh (wordOf hi lo) = hi := by
  apply BitVec.eq_of_toNat_eq
  rw [toNat_wordHigh, toNat_wordOf]
  have := lo.isLt
  omega

/-- The value of a bit operand (R78). -/
theorem toNat_bitOperand (m : Word) (b : BitVec 3) :
    (bitOperand m b).toNat = b.toNat * 8192 + m.toNat % 8192 := by
  have hlt : (m.extractLsb' 0 13).toNat < 2 ^ 13 := (m.extractLsb' 0 13).isLt
  rw [bitOperand, BitVec.toNat_append, ← Nat.shiftLeft_add_eq_or_of_lt hlt, Nat.shiftLeft_eq,
    BitVec.extractLsb'_toNat]
  simp

theorem toNat_bitAddress (w : Word) : (bitAddress w).toNat = w.toNat % 8192 := by
  simp only [bitAddress, BitVec.toNat_and]
  exact Nat.and_two_pow_sub_one_eq_mod w.toNat 13

theorem toNat_bitNumber (w : Word) : (bitNumber w).toNat = w.toNat / 8192 := by
  have := w.isLt
  rw [bitNumber, BitVec.extractLsb'_toNat, Nat.shiftRight_eq_div_pow]
  omega

/-- The bit number of a bit operand (R78). -/
@[simp] theorem bitNumber_bitOperand (m : Word) (b : BitVec 3) : bitNumber (bitOperand m b) = b := by
  apply BitVec.eq_of_toNat_eq
  rw [toNat_bitNumber, toNat_bitOperand]
  omega

/-- The address of a bit operand whose address is one (R78). -/
theorem bitAddress_bitOperand {m : Word} (b : BitVec 3) (h : bitAddressOk m = true) :
    bitAddress (bitOperand m b) = m := by
  have hm : m.toNat < 8192 := by simpa [bitAddressOk] using h
  apply BitVec.eq_of_toNat_eq
  rw [toNat_bitAddress, toNat_bitOperand]
  omega

/-- An address of 13 bits is its own bit address (R129). -/
theorem bitAddress_of_ok {m : Word} (h : bitAddressOk m = true) : bitAddress m = m := by
  have hm : m.toNat < 8192 := by simpa [bitAddressOk] using h
  apply BitVec.eq_of_toNat_eq
  rw [toNat_bitAddress]
  omega

/-- Splitting an operand word and putting it together gives it back (R78). -/
@[simp] theorem bitOperand_split (w : Word) : bitOperand (bitAddress w) (bitNumber w) = w := by
  apply BitVec.eq_of_toNat_eq
  rw [toNat_bitOperand, toNat_bitAddress, toNat_bitNumber]
  have := w.isLt
  omega

/-- What the decoder takes as a bit operand's address is one (R78). -/
theorem bitAddressOk_bitAddress (w : Word) : bitAddressOk (bitAddress w) = true := by
  simp only [bitAddressOk, decide_eq_true_eq, toNat_bitAddress]
  omega

namespace Machine

/-- A byte written to PSW reads back (R32). -/
@[simp] theorem Psw.toByte_ofByte (v : Byte) : (Psw.ofByte v).toByte = v := by
  revert v
  decide

/-- PSW pushed and popped is PSW (R32). -/
@[simp] theorem Psw.ofByte_toByte (p : Psw) : Psw.ofByte p.toByte = p := by
  obtain ⟨c, z, i, h, b, p, v, n⟩ := p
  revert c z i h b p v n
  decide

end Machine

end Sys2Proof
end

