-- ==== Sys2Proof/Laws/Ops.lean ====
section
/-! SUPPORT. What each shared operation does, said once: an equation with every field it changes (a field that is not
named stays), the bus seen from later cycles, and the soundness of each basic operation. -/

namespace Sys2Proof.Machine

variable (s : State)

/-! ### The bus seen from later cycles: `busAt` is the normal form -/

@[simp] theorem State.bus_eq_busAt (a : Word) : s.bus a = s.busAt 0 a := rfl

/-- With an empty oracle the bus is the memory (R51). -/
theorem State.busAt_of_oracle_nil (h : s.oracle = []) (k : Nat) (a : Word) : s.busAt k a = s.memAt a := by
  simp [State.busAt, busAnswer, h, State.memAt]

@[simp] theorem State.busAt_tick (e : BusEvent) (k : Nat) (b : Word) : (s.tick e).busAt k b = s.busAt (k + 1) b := by
  simp only [State.busAt, State.tick_oracle, State.tick_cycles, State.tick_mem]; congr 1; omega
@[simp] theorem State.busAt_idle (k : Nat) (b : Word) : (s.idle).busAt k b = s.busAt (k + 1) b := by
  simp only [State.busAt, State.idle_oracle, State.idle_cycles, State.idle_mem]; congr 1; omega
@[simp] theorem State.busAt_idles (n : Nat) (k : Nat) (b : Word) : (s.idles n).busAt k b = s.busAt (k + n) b := by
  simp only [State.busAt, State.idles_oracle, State.idles_cycles, State.idles_mem]; congr 1; omega
@[simp] theorem State.busAt_read (a : Word) (k : Nat) (b : Word) : (s.read a).busAt k b = s.busAt (k + 1) b := by
  simp only [State.busAt, State.read_oracle, State.read_cycles, State.read_mem]; congr 1; omega
@[simp] theorem State.busAt_discardRead (a : Word) (k : Nat) (b : Word) : (s.discardRead a).busAt k b = s.busAt (k + 1) b := by
  simp only [State.busAt, State.discardRead_oracle, State.discardRead_cycles, State.discardRead_mem]; congr 1; omega
@[simp] theorem State.busAt_fetchOpcode (op : Byte) (k : Nat) (b : Word) : (s.fetchOpcode op).busAt k b = s.busAt (k + 1) b := by
  simp only [State.busAt, State.fetchOpcode_oracle, State.fetchOpcode_cycles, State.fetchOpcode_mem]; congr 1; omega
@[simp] theorem State.busAt_fetchOperand1 (v : Byte) (k : Nat) (b : Word) : (s.fetchOperand1 v).busAt k b = s.busAt (k + 1) b := by
  simp only [State.busAt, State.fetchOperand1_oracle, State.fetchOperand1_cycles, State.fetchOperand1_mem]; congr 1; omega
@[simp] theorem State.busAt_fetchOperand2 (v : Byte) (k : Nat) (b : Word) : (s.fetchOperand2 v).busAt k b = s.busAt (k + 1) b := by
  simp only [State.busAt, State.fetchOperand2_oracle, State.fetchOperand2_cycles, State.fetchOperand2_mem]; congr 1; omega
@[simp] theorem State.busAt_setAX (w : Word) (k : Nat) (c : Word) : (s.setAX w).busAt k c = s.busAt k c := rfl
@[simp] theorem State.busAt_loadA (v : Byte) (k : Nat) (c : Word) : (s.loadA v).busAt k c = s.busAt k c := rfl
@[simp] theorem State.busAt_loadX (v : Byte) (k : Nat) (c : Word) : (s.loadX v).busAt k c = s.busAt k c := rfl
@[simp] theorem State.busAt_loadY (v : Byte) (k : Nat) (c : Word) : (s.loadY v).busAt k c = s.busAt k c := rfl
@[simp] theorem State.busAt_raiseSp (k : Nat) (c : Word) : (s.raiseSp).busAt k c = s.busAt k c := rfl
@[simp] theorem State.busAt_combineA (f : Byte → Byte → Psw → Alu8) (v : Byte) (k : Nat) (c : Word) : (s.combineA f v).busAt k c = s.busAt k c := rfl
@[simp] theorem State.busAt_compare (r v : Byte) (k : Nat) (c : Word) : (s.compare r v).busAt k c = s.busAt k c := rfl
@[simp] theorem State.busAt_setReg (r : RegIndex) (v : Byte) (k : Nat) (c : Word) : (s.setReg r v).busAt k c = s.busAt k c := by
  cases r <;> rfl

/-- After a write the bus answers from the new memory. -/
theorem State.busAt_write (a : Word) (v : Byte) (k : Nat) (c : Word) :
    (s.write a v).busAt k c = busAnswer s.oracle (s.cycles + 1 + k) (memStore s.mem a.toNat v) c := rfl

/-- A write is seen at once, where the oracle says nothing of the cycle (R59 (e)). -/
theorem State.busAt_write_same (a : Word) (v : Byte) (k : Nat) (h : s.oracle.lookup (s.cycles + 1 + k) = none) :
    (s.write a v).busAt k a = v := by
  simp [State.busAt_write, busAnswer, h]

/-- A write is not seen at another address. -/
theorem State.busAt_write_other {a c : Word} (v : Byte) (k : Nat) (h : c ≠ a) :
    (s.write a v).busAt k c = s.busAt (k + 1) c := by
  have hc : s.cycles + 1 + k = s.cycles + (k + 1) := by omega
  simp [State.busAt, busAnswer, memByte_memStore, h, hc]

/-! ### The direct page moves only with P -/

@[simp] theorem State.dp_tick (e : BusEvent) (o : Byte) : (s.tick e).dp o = s.dp o := rfl
@[simp] theorem State.dp_idle (o : Byte) : (s.idle).dp o = s.dp o := rfl
@[simp] theorem State.dp_idles (n : Nat) (o : Byte) : (s.idles n).dp o = s.dp o := rfl
@[simp] theorem State.dp_read (a : Word) (o : Byte) : (s.read a).dp o = s.dp o := rfl
@[simp] theorem State.dp_discardRead (a : Word) (o : Byte) : (s.discardRead a).dp o = s.dp o := rfl
@[simp] theorem State.dp_fetchOpcode (op : Byte) (o : Byte) : (s.fetchOpcode op).dp o = s.dp o := rfl
@[simp] theorem State.dp_fetchOperand1 (v : Byte) (o : Byte) : (s.fetchOperand1 v).dp o = s.dp o := rfl
@[simp] theorem State.dp_fetchOperand2 (v : Byte) (o : Byte) : (s.fetchOperand2 v).dp o = s.dp o := rfl
@[simp] theorem State.dp_write (a : Word) (v : Byte) (o : Byte) : (s.write a v).dp o = s.dp o := rfl
@[simp] theorem State.dp_push (v : Byte) (o : Byte) : (s.push v).dp o = s.dp o := rfl
@[simp] theorem State.dp_setAX (w : Word) (o : Byte) : (s.setAX w).dp o = s.dp o := rfl
@[simp] theorem State.dp_raiseSp (o : Byte) : (s.raiseSp).dp o = s.dp o := rfl

/-! ### Memory is touched by writes alone -/

@[simp] theorem State.memAt_tick (e : BusEvent) : (s.tick e).memAt = s.memAt := rfl
@[simp] theorem State.memAt_idle : (s.idle).memAt = s.memAt := rfl
@[simp] theorem State.memAt_idles (n : Nat) : (s.idles n).memAt = s.memAt := rfl
@[simp] theorem State.memAt_read (a : Word) : (s.read a).memAt = s.memAt := rfl
@[simp] theorem State.memAt_discardRead (a : Word) : (s.discardRead a).memAt = s.memAt := rfl
@[simp] theorem State.memAt_fetchOpcode (op : Byte) : (s.fetchOpcode op).memAt = s.memAt := rfl
@[simp] theorem State.memAt_fetchOperand1 (v : Byte) : (s.fetchOperand1 v).memAt = s.memAt := rfl
@[simp] theorem State.memAt_fetchOperand2 (v : Byte) : (s.fetchOperand2 v).memAt = s.memAt := rfl
@[simp] theorem State.memAt_setAX (w : Word) : (s.setAX w).memAt = s.memAt := rfl
@[simp] theorem State.memAt_loadA (v : Byte) : (s.loadA v).memAt = s.memAt := rfl
@[simp] theorem State.memAt_loadX (v : Byte) : (s.loadX v).memAt = s.memAt := rfl
@[simp] theorem State.memAt_loadY (v : Byte) : (s.loadY v).memAt = s.memAt := rfl
@[simp] theorem State.memAt_raiseSp : (s.raiseSp).memAt = s.memAt := rfl
@[simp] theorem State.memAt_combineA (f : Byte → Byte → Psw → Alu8) (v : Byte) : (s.combineA f v).memAt = s.memAt := rfl
@[simp] theorem State.memAt_compare (r v : Byte) : (s.compare r v).memAt = s.memAt := rfl
@[simp] theorem State.memAt_setReg (r : RegIndex) (v : Byte) : (s.setReg r v).memAt = s.memAt := by
  cases r <;> rfl
@[simp] theorem State.memAt_push (v : Byte) :
    (s.push v).memAt = Function.update s.memAt s.stackAddr v := by
  rw [← State.memAt_write]; rfl

/-! ### Fetches -/

/-- The fetches of a 2-byte instruction (R70). -/
theorem State.fetch2_eq (op b1 : Byte) :
    s.fetch2 op b1 =
      { s with
        pc := s.pc + 2, cycles := s.cycles + 2, latch0 := b1
        trace := .fetch (s.pc + 1) b1 :: .fetch s.pc op :: s.trace } := by
  have h : s.pc + 1 + 1 = s.pc + 2 := by bv_omega
  rw [← h]; rfl

/-- The fetches of a 3-byte instruction in one piece (R70). -/
theorem State.fetch3_eq (op b1 b2 : Byte) :
    s.fetch3 op b1 b2 =
      { s with
        pc := s.pc + 3, cycles := s.cycles + 3, latch0 := b1, latch1 := b2
        trace := .fetch (s.pc + 2) b2 :: .fetch (s.pc + 1) b1 :: .fetch s.pc op :: s.trace } := by
  have h : s.pc + 2 + 1 = s.pc + 3 := by bv_omega
  rw [State.fetch3, State.fetch2_eq, ← h]; rfl

/-- The fetches of a word operand (R74). -/
theorem State.fetchWord_eq (op : Byte) (w : Word) :
    s.fetchWord op w =
      { s with
        pc := s.pc + 3, cycles := s.cycles + 3, latch0 := wordLow w, latch1 := wordHigh w
        trace := .fetch (s.pc + 2) (wordHigh w) :: .fetch (s.pc + 1) (wordLow w) :: .fetch s.pc op :: s.trace } :=
  s.fetch3_eq op _ _

/-- The source byte of `OP dd, ds` and the second operand's late fetch (R75). -/
theorem State.directPageSource_eq (op src dst : Byte) :
    s.directPageSource op src dst =
      { value := s.busAt 2 (s.dp src)
        after :=
          { s with
            pc := s.pc + 3, cycles := s.cycles + 4, latch0 := src, latch1 := dst, latch2 := s.busAt 2 (s.dp src)
            trace := .fetch (s.pc + 2) dst :: .read (s.dp src) (s.busAt 2 (s.dp src)) ::
              .fetch (s.pc + 1) src :: .fetch s.pc op :: s.trace } } := by
  have h : s.pc + 2 + 1 = s.pc + 3 := by bv_omega
  simp only [State.directPageSource, State.fetch2_eq, ← h]; rfl

/-! ### Word reads, pops and pushes -/

/-- The word at an address and the next one (R52, R133). -/
theorem State.wordValue_eq (a : Word) : s.wordValue a = wordOf (s.busAt 1 (a + 1)) (s.busAt 0 a) := rfl

theorem State.readWord_eq (a : Word) :
    s.readWord a =
      { s with
        cycles := s.cycles + 2, latch2 := s.busAt 1 (a + 1)
        trace := .read (a + 1) (s.busAt 1 (a + 1)) :: .read a (s.busAt 0 a) :: s.trace } := rfl

/-- The pointer at a direct-page offset (R126, R127). -/
theorem State.pointerAt_eq (o : Byte) : s.pointerAt o = wordOf (s.busAt 1 (s.dp (o + 1))) (s.busAt 0 (s.dp o)) := rfl

theorem State.readPointer_eq (o : Byte) :
    s.readPointer o =
      { s with
        cycles := s.cycles + 2, latch2 := s.busAt 1 (s.dp (o + 1))
        trace := .read (s.dp (o + 1)) (s.busAt 1 (s.dp (o + 1))) :: .read (s.dp o) (s.busAt 0 (s.dp o)) ::
          s.trace } := rfl

/-- The direct-page word of the forms with an internal cycle between the two reads (R132). -/
theorem State.spacedWordValue_eq (o : Byte) :
    s.spacedWordValue o = wordOf (s.busAt 2 (s.dp (o + 1))) (s.busAt 0 (s.dp o)) := rfl

theorem State.readSpacedWord_eq (o : Byte) :
    s.readSpacedWord o =
      { s with
        cycles := s.cycles + 3, latch2 := s.busAt 2 (s.dp (o + 1))
        trace := .read (s.dp (o + 1)) (s.busAt 2 (s.dp (o + 1))) :: .idle ::
          .read (s.dp o) (s.busAt 0 (s.dp o)) :: s.trace } := rfl

/-- `Push` (R29, R131). -/
theorem State.push_eq (v : Byte) :
    s.push v =
      { s with
        sp := s.sp - 1, cycles := s.cycles + 1, mem := memStore s.mem (wordOf 0x01 s.sp).toNat v
        trace := .write (wordOf 0x01 s.sp) v :: s.trace } := rfl

/-- Two pushes, high byte first (R29). -/
theorem State.pushWord_eq (w : Word) :
    s.pushWord w =
      { s with
        sp := s.sp - 2, cycles := s.cycles + 2
        mem := memStore (memStore s.mem (wordOf 0x01 s.sp).toNat (wordHigh w))
          (wordOf 0x01 (s.sp - 1)).toNat (wordLow w)
        trace := .write (wordOf 0x01 (s.sp - 1)) (wordLow w) :: .write (wordOf 0x01 s.sp) (wordHigh w) ::
          s.trace } := by
  have h : s.sp - 1 - 1 = s.sp - 2 := by bv_omega
  rw [← h]; rfl

/-- What memory reads as after two pushes. -/
theorem State.memAt_pushWord (w : Word) :
    (s.pushWord w).memAt =
      Function.update (Function.update s.memAt (wordOf 0x01 s.sp) (wordHigh w))
        (wordOf 0x01 (s.sp - 1)) (wordLow w) := by
  simp only [State.pushWord, State.memAt_push]; rfl

/-- `Pop` (R29, R131). -/
theorem State.popValue_eq : s.popValue = s.busAt 0 (wordOf 0x01 (s.sp + 1)) := rfl

theorem State.pop_eq :
    s.pop =
      { s with
        sp := s.sp + 1, cycles := s.cycles + 1, latch2 := s.busAt 0 (wordOf 0x01 (s.sp + 1))
        trace := .read (wordOf 0x01 (s.sp + 1)) (s.busAt 0 (wordOf 0x01 (s.sp + 1))) :: s.trace } := rfl

/-- Two pops, low byte first (R29). -/
theorem State.popWordValue_eq :
    s.popWordValue = wordOf (s.busAt 1 (wordOf 0x01 (s.sp + 2))) (s.busAt 0 (wordOf 0x01 (s.sp + 1))) := by
  have h : s.sp + 1 + 1 = s.sp + 2 := by bv_omega
  rw [← h]; rfl

theorem State.popWord_eq :
    s.popWord =
      { s with
        sp := s.sp + 2, cycles := s.cycles + 2, latch2 := s.busAt 1 (wordOf 0x01 (s.sp + 2))
        trace := .read (wordOf 0x01 (s.sp + 2)) (s.busAt 1 (wordOf 0x01 (s.sp + 2))) ::
          .read (wordOf 0x01 (s.sp + 1)) (s.busAt 0 (wordOf 0x01 (s.sp + 1))) :: s.trace } := by
  have h : s.sp + 1 + 1 = s.sp + 2 := by bv_omega
  rw [← h]; rfl

/-! ### The trap, the return from it, the call table, branches -/

/-- Trap entry, from the state after the opcode fetch (R404, R211). -/
theorem State.takeBreak_eq :
    s.takeBreak =
      { s with
        pc := wordOf (s.busAt 1 (breakVector + 1)) (s.busAt 0 breakVector)
        sp := s.sp - 3, cycles := s.cycles + 7, latch2 := s.busAt 1 (breakVector + 1)
        psw := { s.psw with b := true, i := false }
        mem := memStore (memStore (memStore s.mem (wordOf 0x01 s.sp).toNat (wordHigh s.pc))
          (wordOf 0x01 (s.sp - 1)).toNat (wordLow s.pc)) (wordOf 0x01 (s.sp - 2)).toNat s.psw.toByte
        trace := .write (wordOf 0x01 (s.sp - 2)) s.psw.toByte ::
          .write (wordOf 0x01 (s.sp - 1)) (wordLow s.pc) :: .write (wordOf 0x01 s.sp) (wordHigh s.pc) ::
          .idle :: .idle :: .read (breakVector + 1) (s.busAt 1 (breakVector + 1)) ::
          .read breakVector (s.busAt 0 breakVector) :: s.trace } := by
  simp [State.takeBreak, State.wordValue_eq, State.readWord_eq, State.idles, State.pushWord_eq, State.push_eq,
    List.replicate]
  bv_omega

/-- Trap return, from the state after the opcode fetch (R405, R213). -/
theorem State.returnFromBreak_eq :
    s.returnFromBreak =
      { s with
        pc := wordOf (s.busAt 2 (wordOf 0x01 (s.sp + 3))) (s.busAt 1 (wordOf 0x01 (s.sp + 2)))
        sp := s.sp + 3, cycles := s.cycles + 5, latch2 := s.busAt 2 (wordOf 0x01 (s.sp + 3))
        psw := Psw.ofByte (s.busAt 0 (wordOf 0x01 (s.sp + 1)))
        trace := .idle :: .idle :: .read (wordOf 0x01 (s.sp + 3)) (s.busAt 2 (wordOf 0x01 (s.sp + 3))) ::
          .read (wordOf 0x01 (s.sp + 2)) (s.busAt 1 (wordOf 0x01 (s.sp + 2))) ::
          .read (wordOf 0x01 (s.sp + 1)) (s.busAt 0 (wordOf 0x01 (s.sp + 1))) :: s.trace } := by
  have hb : ∀ (k : Nat) (a : Word), (s.pop).busAt k a = s.busAt (k + 1) a := by
    intro k a
    simp only [State.pop, State.busAt_read, State.busAt_raiseSp]
  simp [State.returnFromBreak, State.popWordValue_eq, State.popWord_eq, State.popValue_eq, hb, State.idles,
    List.replicate]
  simp [State.pop_eq, BitVec.add_assoc]

/-- `TCALL n`, from the state after the opcode fetch (R210). -/
theorem State.callTable_eq (n : Nat) :
    s.callTable n =
      { s with
        pc := wordOf (s.busAt 1 (callVector n + 1)) (s.busAt 0 (callVector n))
        sp := s.sp - 2, cycles := s.cycles + 7, latch2 := s.busAt 1 (callVector n + 1)
        mem := memStore (memStore s.mem (wordOf 0x01 s.sp).toNat (wordHigh s.pc))
          (wordOf 0x01 (s.sp - 1)).toNat (wordLow s.pc)
        trace := .write (wordOf 0x01 (s.sp - 1)) (wordLow s.pc) :: .write (wordOf 0x01 s.sp) (wordHigh s.pc) ::
          .idle :: .idle :: .idle :: .read (callVector n + 1) (s.busAt 1 (callVector n + 1)) ::
          .read (callVector n) (s.busAt 0 (callVector n)) :: s.trace } := by
  simp [State.callTable, State.wordValue_eq, State.readWord_eq, State.idles, State.pushWord_eq, List.replicate]

/-- A relative branch, taken or not (R130). -/
theorem State.branchIf_true (r : Byte) :
    s.branchIf true r =
      { s with pc := s.pc + r.signExtend 16, cycles := s.cycles + 2, trace := .idle :: .idle :: s.trace } := rfl

theorem State.branchIf_false (r : Byte) : s.branchIf false r = s := rfl

/-! ### What the families do at a resolved address -/

/-- A store (R140). -/
theorem Resolved.store_eq (r : Resolved) (v : Byte) :
    r.store v =
      { r.after with
        cycles := r.after.cycles + 2, mem := memStore r.after.mem r.addr.toNat v
        trace := .write r.addr v :: .discard r.addr (r.after.busAt 0 r.addr) :: r.after.trace } := rfl

/-- A read-modify-write (R58, R290). -/
theorem Resolved.modify_eq (r : Resolved) (f : Byte → Psw → Alu8) :
    r.modify f =
      { r.after with
        cycles := r.after.cycles + 2, latch2 := r.after.busAt 0 r.addr
        psw := (f (r.after.busAt 0 r.addr) r.after.psw).psw
        mem := memStore r.after.mem r.addr.toNat (f (r.after.busAt 0 r.addr) r.after.psw).value
        trace := .write r.addr (f (r.after.busAt 0 r.addr) r.after.psw).value ::
          .read r.addr (r.after.busAt 0 r.addr) :: r.after.trace } := rfl

/-- A read-modify-write that touches no flag (R323 to R325). -/
theorem Resolved.rewrite_eq (r : Resolved) (f : Byte → Byte) :
    r.rewrite f =
      { r.after with
        cycles := r.after.cycles + 2, latch2 := r.after.busAt 0 r.addr
        mem := memStore r.after.mem r.addr.toNat (f (r.after.busAt 0 r.addr))
        trace := .write r.addr (f (r.after.busAt 0 r.addr)) :: .read r.addr (r.after.busAt 0 r.addr) ::
          r.after.trace } := rfl

/-- A combination into A (R220). -/
theorem Resolved.combineA_eq (r : Resolved) (f : Byte → Byte → Psw → Alu8) :
    r.combineA f =
      { r.after with
        a := (f r.after.a (r.after.busAt 0 r.addr) r.after.psw).value
        psw := (f r.after.a (r.after.busAt 0 r.addr) r.after.psw).psw
        cycles := r.after.cycles + 1, latch2 := r.after.busAt 0 r.addr
        trace := .read r.addr (r.after.busAt 0 r.addr) :: r.after.trace } := rfl

/-- A comparison with a register (R220). -/
theorem Resolved.compare_eq (r : Resolved) (reg : Byte) :
    r.compare reg =
      { r.after with
        psw := aluCmp reg (r.after.busAt 0 r.addr) r.after.psw
        cycles := r.after.cycles + 1, latch2 := r.after.busAt 0 r.addr
        trace := .read r.addr (r.after.busAt 0 r.addr) :: r.after.trace } := rfl

/-- Loads (R140). -/
theorem Resolved.loadA_eq (r : Resolved) :
    r.loadA =
      { r.after with
        a := r.after.busAt 0 r.addr, psw := r.after.psw.setNZ8 (r.after.busAt 0 r.addr)
        cycles := r.after.cycles + 1, latch2 := r.after.busAt 0 r.addr
        trace := .read r.addr (r.after.busAt 0 r.addr) :: r.after.trace } := rfl

theorem Resolved.loadX_eq (r : Resolved) :
    r.loadX =
      { r.after with
        x := r.after.busAt 0 r.addr, psw := r.after.psw.setNZ8 (r.after.busAt 0 r.addr)
        cycles := r.after.cycles + 1, latch2 := r.after.busAt 0 r.addr
        trace := .read r.addr (r.after.busAt 0 r.addr) :: r.after.trace } := rfl

theorem Resolved.loadY_eq (r : Resolved) :
    r.loadY =
      { r.after with
        y := r.after.busAt 0 r.addr, psw := r.after.psw.setNZ8 (r.after.busAt 0 r.addr)
        cycles := r.after.cycles + 1, latch2 := r.after.busAt 0 r.addr
        trace := .read r.addr (r.after.busAt 0 r.addr) :: r.after.trace } := rfl

/-! ### The 16-bit step of a direct-page word (R319, R320) -/

/-- The two bytes of a direct-page word lie at different addresses. -/
theorem State.dp_succ_ne (o : Byte) : s.dp (o + 1) ≠ s.dp o := by
  intro h
  have hn := congrArg BitVec.toNat h
  rw [State.dp, State.dp, toNat_wordOf, toNat_wordOf] at hn
  have ho : (o + 1).toNat = o.toNat := by omega
  simp [BitVec.toNat_add] at ho
  omega

/-- The low byte is written before the high byte is read, and the high byte's address is another one, so the two halves
are those of one 16-bit sum. -/
theorem State.bumpWord_eq (o : Byte) (delta : Word) :
    s.bumpWord o delta =
      (let lo := s.busAt 0 (s.dp o)
        let hi := s.busAt 2 (s.dp (o + 1))
        let w := wordOf hi lo + delta
        { s with
          cycles := s.cycles + 4, latch2 := hi, psw := s.psw.setNZ16 w
          mem := memStore (memStore s.mem (s.dp o).toNat (wordLow w)) (s.dp (o + 1)).toNat (wordHigh w)
          trace := .write (s.dp (o + 1)) (wordHigh w) :: .read (s.dp (o + 1)) hi ::
            .write (s.dp o) (wordLow w) :: .read (s.dp o) lo :: s.trace }) := by
  have hlow : ∀ hi lo : Byte, wordLow (wordOf 0x00 lo + delta) = wordLow (wordOf hi lo + delta) := by
    intro hi lo
    apply BitVec.eq_of_toNat_eq
    simp only [toNat_wordLow, BitVec.toNat_add, toNat_wordOf]
    simp
    omega
  have hsum : ∀ hi lo : Byte, wordOf 0x00 lo + delta + wordOf hi 0x00 = wordOf hi lo + delta := by
    intro hi lo
    apply BitVec.eq_of_toNat_eq
    simp only [BitVec.toNat_add, toNat_wordOf]
    simp
    omega
  have hread : ∀ v : Byte, ((s.read (s.dp o)).write (s.dp o) v).bus (s.dp (o + 1)) = s.busAt 2 (s.dp (o + 1)) := by
    intro v
    rw [State.bus_eq_busAt, State.busAt_write_other _ _ _ (s.dp_succ_ne o), State.busAt_read]
  simp only [State.bumpWord, hread, hsum, hlow (s.busAt 2 (s.dp (o + 1))), State.bus_eq_busAt]
  simp only [State.write, State.tick, State.read, State.bus_eq_busAt]
  have hlate : ∀ v, ((s.read (s.dp o)).write (s.dp o) v).busAt 0 (s.dp (o + 1)) = s.busAt 2 (s.dp (o + 1)) := hread
  simp only [State.write, State.tick, State.read, State.bus_eq_busAt] at hlate
  rw [hlate]

/-! ### The block move (R186) -/

/-- A register written reads back, and no other register changes. -/
theorem State.getReg_setReg (r q : RegIndex) (v : Byte) :
    (s.setReg r v).getReg q = if q = r then v else s.getReg q := by
  cases r <;> cases q <;> rfl

/-- One pass changes three registers, one byte of memory, the cycles and the trace. -/
theorem State.blockPass_eq (bm : BlockMove) :
    s.blockPass bm =
      (let t := ((s.read (s.dp (s.getReg bm.src))).write (s.dp (s.getReg bm.dst))
          (s.busAt 0 (s.dp (s.getReg bm.src)))).idles (bm.iter - 2)
        let t1 := t.setReg bm.src (blockAdvance bm.dir (t.getReg bm.src))
        let t2 := t1.setReg bm.dst (blockAdvance bm.dir (t1.getReg bm.dst))
        t2.setReg bm.cnt (t2.getReg bm.cnt - 1)) := rfl

/-! ### Soundness of the basic operations -/

variable {s}

theorem State.Sound.tick (h : s.Sound) (e : BusEvent) : (s.tick e).Sound :=
  ⟨h.1, by simp [h.2]⟩

theorem State.Sound.idle (h : s.Sound) : s.idle.Sound := h.tick _

theorem State.Sound.idles (h : s.Sound) (n : Nat) : (s.idles n).Sound :=
  ⟨h.1, by simp [h.2, Nat.add_comm]⟩

theorem State.Sound.read (h : s.Sound) (a : Word) : (s.read a).Sound :=
  ⟨h.1, by simp [h.2]⟩

theorem State.Sound.discardRead (h : s.Sound) (a : Word) : (s.discardRead a).Sound := h.tick _

theorem State.Sound.write (h : s.Sound) (a : Word) (v : Byte) : (s.write a v).Sound :=
  ⟨Memory.wf_memStore _ _ _ h.1, by simp [h.2]⟩

theorem State.Sound.fetchOpcode (h : s.Sound) (op : Byte) : (s.fetchOpcode op).Sound :=
  ⟨h.1, by simp [h.2]⟩

theorem State.Sound.fetchOperand1 (h : s.Sound) (v : Byte) : (s.fetchOperand1 v).Sound :=
  ⟨h.1, by simp [h.2]⟩

theorem State.Sound.fetchOperand2 (h : s.Sound) (v : Byte) : (s.fetchOperand2 v).Sound :=
  ⟨h.1, by simp [h.2]⟩

theorem State.Sound.push (h : s.Sound) (v : Byte) : (s.push v).Sound :=
  ⟨Memory.wf_memStore _ _ _ h.1, by simp [State.push_eq, h.2]⟩

/-- Soundness looks at memory, the trace and the cycle counter alone. -/
theorem State.Sound.of_same {t : State} (h : s.Sound) (hm : t.mem = s.mem) (ht : t.trace = s.trace)
    (hc : t.cycles = s.cycles) : t.Sound := by
  simpa [State.Sound, hm, ht, hc] using h

end Sys2Proof.Machine
end

