-- ==== Sys2Proof/Laws/PerInstr.lean ====
section
/-! SUPPORT. Per-instruction laws: for every constructor of Instr, its encoding is an opcode byte and as many operand
bytes as the cell of that opcode byte says (R70). -/

namespace Sys2Proof.Laws.Encoding

/-- The encoding is an opcode byte with the operand bytes its cell asks for. -/
def Statement (i : Instr) : Prop :=
  ∃ op rest, encode i = op :: rest ∧ rest.length = (slotOf op).operandCount

theorem set1b0 (o : Byte) : Statement (.set1b0 o) := ⟨_, _, rfl, rfl⟩
theorem bbs0 (o : Byte) (r : Byte) : Statement (.bbs0 o r) := ⟨_, _, rfl, rfl⟩
theorem orADp (o : Byte) : Statement (.orADp o) := ⟨_, _, rfl, rfl⟩
theorem orAAbs (addr : Word) : Statement (.orAAbs addr) := ⟨_, _, rfl, rfl⟩
theorem orAIdxInd (o : Byte) : Statement (.orAIdxInd o) := ⟨_, _, rfl, rfl⟩
theorem orAImm (imm : Byte) : Statement (.orAImm imm) := ⟨_, _, rfl, rfl⟩
theorem orDpDp (dst : Byte) (src : Byte) : Statement (.orDpDp dst src) := ⟨_, _, rfl, rfl⟩
theorem or1CBit (m : Word) (b : BitVec 3) : Statement (.or1CBit m b) := ⟨_, _, rfl, rfl⟩
theorem aslDp (o : Byte) : Statement (.aslDp o) := ⟨_, _, rfl, rfl⟩
theorem aslAbs (addr : Word) : Statement (.aslAbs addr) := ⟨_, _, rfl, rfl⟩
theorem tset1Abs (addr : Word) : Statement (.tset1Abs addr) := ⟨_, _, rfl, rfl⟩
theorem bpl (r : Byte) : Statement (.bpl r) := ⟨_, _, rfl, rfl⟩
theorem clr1b0 (o : Byte) : Statement (.clr1b0 o) := ⟨_, _, rfl, rfl⟩
theorem bbc0 (o : Byte) (r : Byte) : Statement (.bbc0 o r) := ⟨_, _, rfl, rfl⟩
theorem orADpX (o : Byte) : Statement (.orADpX o) := ⟨_, _, rfl, rfl⟩
theorem orAAbsX (addr : Word) : Statement (.orAAbsX addr) := ⟨_, _, rfl, rfl⟩
theorem orAAbsY (addr : Word) : Statement (.orAAbsY addr) := ⟨_, _, rfl, rfl⟩
theorem orAIndIdx (o : Byte) : Statement (.orAIndIdx o) := ⟨_, _, rfl, rfl⟩
theorem orDpImm (dst : Byte) (imm : Byte) : Statement (.orDpImm dst imm) := ⟨_, _, rfl, rfl⟩
theorem decwDp (o : Byte) : Statement (.decwDp o) := ⟨_, _, rfl, rfl⟩
theorem aslDpX (o : Byte) : Statement (.aslDpX o) := ⟨_, _, rfl, rfl⟩
theorem cmpXAbs (addr : Word) : Statement (.cmpXAbs addr) := ⟨_, _, rfl, rfl⟩
theorem jmpAbsXInd (addr : Word) : Statement (.jmpAbsXInd addr) := ⟨_, _, rfl, rfl⟩
theorem set1b1 (o : Byte) : Statement (.set1b1 o) := ⟨_, _, rfl, rfl⟩
theorem bbs1 (o : Byte) (r : Byte) : Statement (.bbs1 o r) := ⟨_, _, rfl, rfl⟩
theorem andADp (o : Byte) : Statement (.andADp o) := ⟨_, _, rfl, rfl⟩
theorem andAAbs (addr : Word) : Statement (.andAAbs addr) := ⟨_, _, rfl, rfl⟩
theorem andAIdxInd (o : Byte) : Statement (.andAIdxInd o) := ⟨_, _, rfl, rfl⟩
theorem andAImm (imm : Byte) : Statement (.andAImm imm) := ⟨_, _, rfl, rfl⟩
theorem andDpDp (dst : Byte) (src : Byte) : Statement (.andDpDp dst src) := ⟨_, _, rfl, rfl⟩
theorem or1CNotBit (m : Word) (b : BitVec 3) : Statement (.or1CNotBit m b) := ⟨_, _, rfl, rfl⟩
theorem rolDp (o : Byte) : Statement (.rolDp o) := ⟨_, _, rfl, rfl⟩
theorem rolAbs (addr : Word) : Statement (.rolAbs addr) := ⟨_, _, rfl, rfl⟩
theorem cbneDp (o : Byte) (r : Byte) : Statement (.cbneDp o r) := ⟨_, _, rfl, rfl⟩
theorem bra (r : Byte) : Statement (.bra r) := ⟨_, _, rfl, rfl⟩
theorem bmi (r : Byte) : Statement (.bmi r) := ⟨_, _, rfl, rfl⟩
theorem clr1b1 (o : Byte) : Statement (.clr1b1 o) := ⟨_, _, rfl, rfl⟩
theorem bbc1 (o : Byte) (r : Byte) : Statement (.bbc1 o r) := ⟨_, _, rfl, rfl⟩
theorem andADpX (o : Byte) : Statement (.andADpX o) := ⟨_, _, rfl, rfl⟩
theorem andAAbsX (addr : Word) : Statement (.andAAbsX addr) := ⟨_, _, rfl, rfl⟩
theorem andAAbsY (addr : Word) : Statement (.andAAbsY addr) := ⟨_, _, rfl, rfl⟩
theorem andAIndIdx (o : Byte) : Statement (.andAIndIdx o) := ⟨_, _, rfl, rfl⟩
theorem andDpImm (dst : Byte) (imm : Byte) : Statement (.andDpImm dst imm) := ⟨_, _, rfl, rfl⟩
theorem incwDp (o : Byte) : Statement (.incwDp o) := ⟨_, _, rfl, rfl⟩
theorem rolDpX (o : Byte) : Statement (.rolDpX o) := ⟨_, _, rfl, rfl⟩
theorem cmpXDp (o : Byte) : Statement (.cmpXDp o) := ⟨_, _, rfl, rfl⟩
theorem call (addr : Word) : Statement (.call addr) := ⟨_, _, rfl, rfl⟩
theorem set1b2 (o : Byte) : Statement (.set1b2 o) := ⟨_, _, rfl, rfl⟩
theorem bbs2 (o : Byte) (r : Byte) : Statement (.bbs2 o r) := ⟨_, _, rfl, rfl⟩
theorem eorADp (o : Byte) : Statement (.eorADp o) := ⟨_, _, rfl, rfl⟩
theorem eorAAbs (addr : Word) : Statement (.eorAAbs addr) := ⟨_, _, rfl, rfl⟩
theorem eorAIdxInd (o : Byte) : Statement (.eorAIdxInd o) := ⟨_, _, rfl, rfl⟩
theorem eorAImm (imm : Byte) : Statement (.eorAImm imm) := ⟨_, _, rfl, rfl⟩
theorem eorDpDp (dst : Byte) (src : Byte) : Statement (.eorDpDp dst src) := ⟨_, _, rfl, rfl⟩
theorem and1CBit (m : Word) (b : BitVec 3) : Statement (.and1CBit m b) := ⟨_, _, rfl, rfl⟩
theorem lsrDp (o : Byte) : Statement (.lsrDp o) := ⟨_, _, rfl, rfl⟩
theorem lsrAbs (addr : Word) : Statement (.lsrAbs addr) := ⟨_, _, rfl, rfl⟩
theorem tclr1Abs (addr : Word) : Statement (.tclr1Abs addr) := ⟨_, _, rfl, rfl⟩
theorem pcall (u : Byte) : Statement (.pcall u) := ⟨_, _, rfl, rfl⟩
theorem bvc (r : Byte) : Statement (.bvc r) := ⟨_, _, rfl, rfl⟩
theorem clr1b2 (o : Byte) : Statement (.clr1b2 o) := ⟨_, _, rfl, rfl⟩
theorem bbc2 (o : Byte) (r : Byte) : Statement (.bbc2 o r) := ⟨_, _, rfl, rfl⟩
theorem eorADpX (o : Byte) : Statement (.eorADpX o) := ⟨_, _, rfl, rfl⟩
theorem eorAAbsX (addr : Word) : Statement (.eorAAbsX addr) := ⟨_, _, rfl, rfl⟩
theorem eorAAbsY (addr : Word) : Statement (.eorAAbsY addr) := ⟨_, _, rfl, rfl⟩
theorem eorAIndIdx (o : Byte) : Statement (.eorAIndIdx o) := ⟨_, _, rfl, rfl⟩
theorem eorDpImm (dst : Byte) (imm : Byte) : Statement (.eorDpImm dst imm) := ⟨_, _, rfl, rfl⟩
theorem cmpwAXDp (o : Byte) : Statement (.cmpwAXDp o) := ⟨_, _, rfl, rfl⟩
theorem lsrDpX (o : Byte) : Statement (.lsrDpX o) := ⟨_, _, rfl, rfl⟩
theorem cmpYAbs (addr : Word) : Statement (.cmpYAbs addr) := ⟨_, _, rfl, rfl⟩
theorem jmpAbs (addr : Word) : Statement (.jmpAbs addr) := ⟨_, _, rfl, rfl⟩
theorem set1b3 (o : Byte) : Statement (.set1b3 o) := ⟨_, _, rfl, rfl⟩
theorem bbs3 (o : Byte) (r : Byte) : Statement (.bbs3 o r) := ⟨_, _, rfl, rfl⟩
theorem cmpADp (o : Byte) : Statement (.cmpADp o) := ⟨_, _, rfl, rfl⟩
theorem cmpAAbs (addr : Word) : Statement (.cmpAAbs addr) := ⟨_, _, rfl, rfl⟩
theorem cmpAIdxInd (o : Byte) : Statement (.cmpAIdxInd o) := ⟨_, _, rfl, rfl⟩
theorem cmpAImm (imm : Byte) : Statement (.cmpAImm imm) := ⟨_, _, rfl, rfl⟩
theorem cmpDpDp (dst : Byte) (src : Byte) : Statement (.cmpDpDp dst src) := ⟨_, _, rfl, rfl⟩
theorem and1CNotBit (m : Word) (b : BitVec 3) : Statement (.and1CNotBit m b) := ⟨_, _, rfl, rfl⟩
theorem rorDp (o : Byte) : Statement (.rorDp o) := ⟨_, _, rfl, rfl⟩
theorem rorAbs (addr : Word) : Statement (.rorAbs addr) := ⟨_, _, rfl, rfl⟩
theorem dbnzDp (o : Byte) (r : Byte) : Statement (.dbnzDp o r) := ⟨_, _, rfl, rfl⟩
theorem bvs (r : Byte) : Statement (.bvs r) := ⟨_, _, rfl, rfl⟩
theorem clr1b3 (o : Byte) : Statement (.clr1b3 o) := ⟨_, _, rfl, rfl⟩
theorem bbc3 (o : Byte) (r : Byte) : Statement (.bbc3 o r) := ⟨_, _, rfl, rfl⟩
theorem cmpADpX (o : Byte) : Statement (.cmpADpX o) := ⟨_, _, rfl, rfl⟩
theorem cmpAAbsX (addr : Word) : Statement (.cmpAAbsX addr) := ⟨_, _, rfl, rfl⟩
theorem cmpAAbsY (addr : Word) : Statement (.cmpAAbsY addr) := ⟨_, _, rfl, rfl⟩
theorem cmpAIndIdx (o : Byte) : Statement (.cmpAIndIdx o) := ⟨_, _, rfl, rfl⟩
theorem cmpDpImm (dst : Byte) (imm : Byte) : Statement (.cmpDpImm dst imm) := ⟨_, _, rfl, rfl⟩
theorem addwAXDp (o : Byte) : Statement (.addwAXDp o) := ⟨_, _, rfl, rfl⟩
theorem rorDpX (o : Byte) : Statement (.rorDpX o) := ⟨_, _, rfl, rfl⟩
theorem cmpYDp (o : Byte) : Statement (.cmpYDp o) := ⟨_, _, rfl, rfl⟩
theorem set1b4 (o : Byte) : Statement (.set1b4 o) := ⟨_, _, rfl, rfl⟩
theorem bbs4 (o : Byte) (r : Byte) : Statement (.bbs4 o r) := ⟨_, _, rfl, rfl⟩
theorem adcADp (o : Byte) : Statement (.adcADp o) := ⟨_, _, rfl, rfl⟩
theorem adcAAbs (addr : Word) : Statement (.adcAAbs addr) := ⟨_, _, rfl, rfl⟩
theorem adcAIdxInd (o : Byte) : Statement (.adcAIdxInd o) := ⟨_, _, rfl, rfl⟩
theorem adcAImm (imm : Byte) : Statement (.adcAImm imm) := ⟨_, _, rfl, rfl⟩
theorem adcDpDp (dst : Byte) (src : Byte) : Statement (.adcDpDp dst src) := ⟨_, _, rfl, rfl⟩
theorem eor1CBit (m : Word) (b : BitVec 3) : Statement (.eor1CBit m b) := ⟨_, _, rfl, rfl⟩
theorem decDp (o : Byte) : Statement (.decDp o) := ⟨_, _, rfl, rfl⟩
theorem decAbs (addr : Word) : Statement (.decAbs addr) := ⟨_, _, rfl, rfl⟩
theorem movYImm (imm : Byte) : Statement (.movYImm imm) := ⟨_, _, rfl, rfl⟩
theorem movDpImm (dst : Byte) (imm : Byte) : Statement (.movDpImm dst imm) := ⟨_, _, rfl, rfl⟩
theorem bcc (r : Byte) : Statement (.bcc r) := ⟨_, _, rfl, rfl⟩
theorem clr1b4 (o : Byte) : Statement (.clr1b4 o) := ⟨_, _, rfl, rfl⟩
theorem bbc4 (o : Byte) (r : Byte) : Statement (.bbc4 o r) := ⟨_, _, rfl, rfl⟩
theorem adcADpX (o : Byte) : Statement (.adcADpX o) := ⟨_, _, rfl, rfl⟩
theorem adcAAbsX (addr : Word) : Statement (.adcAAbsX addr) := ⟨_, _, rfl, rfl⟩
theorem adcAAbsY (addr : Word) : Statement (.adcAAbsY addr) := ⟨_, _, rfl, rfl⟩
theorem adcAIndIdx (o : Byte) : Statement (.adcAIndIdx o) := ⟨_, _, rfl, rfl⟩
theorem adcDpImm (dst : Byte) (imm : Byte) : Statement (.adcDpImm dst imm) := ⟨_, _, rfl, rfl⟩
theorem subwAXDp (o : Byte) : Statement (.subwAXDp o) := ⟨_, _, rfl, rfl⟩
theorem decDpX (o : Byte) : Statement (.decDpX o) := ⟨_, _, rfl, rfl⟩
theorem set1b5 (o : Byte) : Statement (.set1b5 o) := ⟨_, _, rfl, rfl⟩
theorem bbs5 (o : Byte) (r : Byte) : Statement (.bbs5 o r) := ⟨_, _, rfl, rfl⟩
theorem sbcADp (o : Byte) : Statement (.sbcADp o) := ⟨_, _, rfl, rfl⟩
theorem sbcAAbs (addr : Word) : Statement (.sbcAAbs addr) := ⟨_, _, rfl, rfl⟩
theorem sbcAIdxInd (o : Byte) : Statement (.sbcAIdxInd o) := ⟨_, _, rfl, rfl⟩
theorem sbcAImm (imm : Byte) : Statement (.sbcAImm imm) := ⟨_, _, rfl, rfl⟩
theorem sbcDpDp (dst : Byte) (src : Byte) : Statement (.sbcDpDp dst src) := ⟨_, _, rfl, rfl⟩
theorem mov1CBit (m : Word) (b : BitVec 3) : Statement (.mov1CBit m b) := ⟨_, _, rfl, rfl⟩
theorem incDp (o : Byte) : Statement (.incDp o) := ⟨_, _, rfl, rfl⟩
theorem incAbs (addr : Word) : Statement (.incAbs addr) := ⟨_, _, rfl, rfl⟩
theorem cmpYImm (imm : Byte) : Statement (.cmpYImm imm) := ⟨_, _, rfl, rfl⟩
theorem bcs (r : Byte) : Statement (.bcs r) := ⟨_, _, rfl, rfl⟩
theorem clr1b5 (o : Byte) : Statement (.clr1b5 o) := ⟨_, _, rfl, rfl⟩
theorem bbc5 (o : Byte) (r : Byte) : Statement (.bbc5 o r) := ⟨_, _, rfl, rfl⟩
theorem sbcADpX (o : Byte) : Statement (.sbcADpX o) := ⟨_, _, rfl, rfl⟩
theorem sbcAAbsX (addr : Word) : Statement (.sbcAAbsX addr) := ⟨_, _, rfl, rfl⟩
theorem sbcAAbsY (addr : Word) : Statement (.sbcAAbsY addr) := ⟨_, _, rfl, rfl⟩
theorem sbcAIndIdx (o : Byte) : Statement (.sbcAIndIdx o) := ⟨_, _, rfl, rfl⟩
theorem sbcDpImm (dst : Byte) (imm : Byte) : Statement (.sbcDpImm dst imm) := ⟨_, _, rfl, rfl⟩
theorem movwAXDp (o : Byte) : Statement (.movwAXDp o) := ⟨_, _, rfl, rfl⟩
theorem incDpX (o : Byte) : Statement (.incDpX o) := ⟨_, _, rfl, rfl⟩
theorem set1b6 (o : Byte) : Statement (.set1b6 o) := ⟨_, _, rfl, rfl⟩
theorem bbs6 (o : Byte) (r : Byte) : Statement (.bbs6 o r) := ⟨_, _, rfl, rfl⟩
theorem movDpA (o : Byte) : Statement (.movDpA o) := ⟨_, _, rfl, rfl⟩
theorem movAbsA (addr : Word) : Statement (.movAbsA addr) := ⟨_, _, rfl, rfl⟩
theorem movIdxIndA (o : Byte) : Statement (.movIdxIndA o) := ⟨_, _, rfl, rfl⟩
theorem cmpXImm (imm : Byte) : Statement (.cmpXImm imm) := ⟨_, _, rfl, rfl⟩
theorem movAbsX (addr : Word) : Statement (.movAbsX addr) := ⟨_, _, rfl, rfl⟩
theorem mov1BitC (m : Word) (b : BitVec 3) : Statement (.mov1BitC m b) := ⟨_, _, rfl, rfl⟩
theorem movDpY (o : Byte) : Statement (.movDpY o) := ⟨_, _, rfl, rfl⟩
theorem movAbsY (addr : Word) : Statement (.movAbsY addr) := ⟨_, _, rfl, rfl⟩
theorem movXImm (imm : Byte) : Statement (.movXImm imm) := ⟨_, _, rfl, rfl⟩
theorem bne (r : Byte) : Statement (.bne r) := ⟨_, _, rfl, rfl⟩
theorem clr1b6 (o : Byte) : Statement (.clr1b6 o) := ⟨_, _, rfl, rfl⟩
theorem bbc6 (o : Byte) (r : Byte) : Statement (.bbc6 o r) := ⟨_, _, rfl, rfl⟩
theorem movDpXA (o : Byte) : Statement (.movDpXA o) := ⟨_, _, rfl, rfl⟩
theorem movAbsXA (addr : Word) : Statement (.movAbsXA addr) := ⟨_, _, rfl, rfl⟩
theorem movAbsYA (addr : Word) : Statement (.movAbsYA addr) := ⟨_, _, rfl, rfl⟩
theorem movIndIdxA (o : Byte) : Statement (.movIndIdxA o) := ⟨_, _, rfl, rfl⟩
theorem movDpX (o : Byte) : Statement (.movDpX o) := ⟨_, _, rfl, rfl⟩
theorem movDpYX (o : Byte) : Statement (.movDpYX o) := ⟨_, _, rfl, rfl⟩
theorem movwDpAX (o : Byte) : Statement (.movwDpAX o) := ⟨_, _, rfl, rfl⟩
theorem movDpXY (o : Byte) : Statement (.movDpXY o) := ⟨_, _, rfl, rfl⟩
theorem cbneDpX (o : Byte) (r : Byte) : Statement (.cbneDpX o r) := ⟨_, _, rfl, rfl⟩
theorem set1b7 (o : Byte) : Statement (.set1b7 o) := ⟨_, _, rfl, rfl⟩
theorem bbs7 (o : Byte) (r : Byte) : Statement (.bbs7 o r) := ⟨_, _, rfl, rfl⟩
theorem movADp (o : Byte) : Statement (.movADp o) := ⟨_, _, rfl, rfl⟩
theorem movAAbs (addr : Word) : Statement (.movAAbs addr) := ⟨_, _, rfl, rfl⟩
theorem movAIdxInd (o : Byte) : Statement (.movAIdxInd o) := ⟨_, _, rfl, rfl⟩
theorem movAImm (imm : Byte) : Statement (.movAImm imm) := ⟨_, _, rfl, rfl⟩
theorem movXAbs (addr : Word) : Statement (.movXAbs addr) := ⟨_, _, rfl, rfl⟩
theorem not1Bit (m : Word) (b : BitVec 3) : Statement (.not1Bit m b) := ⟨_, _, rfl, rfl⟩
theorem movYDp (o : Byte) : Statement (.movYDp o) := ⟨_, _, rfl, rfl⟩
theorem movYAbs (addr : Word) : Statement (.movYAbs addr) := ⟨_, _, rfl, rfl⟩
theorem beq (r : Byte) : Statement (.beq r) := ⟨_, _, rfl, rfl⟩
theorem clr1b7 (o : Byte) : Statement (.clr1b7 o) := ⟨_, _, rfl, rfl⟩
theorem bbc7 (o : Byte) (r : Byte) : Statement (.bbc7 o r) := ⟨_, _, rfl, rfl⟩
theorem movADpX (o : Byte) : Statement (.movADpX o) := ⟨_, _, rfl, rfl⟩
theorem movAAbsX (addr : Word) : Statement (.movAAbsX addr) := ⟨_, _, rfl, rfl⟩
theorem movAAbsY (addr : Word) : Statement (.movAAbsY addr) := ⟨_, _, rfl, rfl⟩
theorem movAIndIdx (o : Byte) : Statement (.movAIndIdx o) := ⟨_, _, rfl, rfl⟩
theorem movXDp (o : Byte) : Statement (.movXDp o) := ⟨_, _, rfl, rfl⟩
theorem movXDpY (o : Byte) : Statement (.movXDpY o) := ⟨_, _, rfl, rfl⟩
theorem movDpDp (dst : Byte) (src : Byte) : Statement (.movDpDp dst src) := ⟨_, _, rfl, rfl⟩
theorem movYDpX (o : Byte) : Statement (.movYDpX o) := ⟨_, _, rfl, rfl⟩
theorem dbnzY (r : Byte) : Statement (.dbnzY r) := ⟨_, _, rfl, rfl⟩
theorem nop : Statement (.nop) := ⟨_, _, rfl, rfl⟩
theorem tcall0 : Statement (.tcall0) := ⟨_, _, rfl, rfl⟩
theorem orAIndX : Statement (.orAIndX) := ⟨_, _, rfl, rfl⟩
theorem pushPsw : Statement (.pushPsw) := ⟨_, _, rfl, rfl⟩
theorem brk : Statement (.brk) := ⟨_, _, rfl, rfl⟩
theorem tcall1 : Statement (.tcall1) := ⟨_, _, rfl, rfl⟩
theorem orIndXIndY : Statement (.orIndXIndY) := ⟨_, _, rfl, rfl⟩
theorem aslA : Statement (.aslA) := ⟨_, _, rfl, rfl⟩
theorem decX : Statement (.decX) := ⟨_, _, rfl, rfl⟩
theorem clrp : Statement (.clrp) := ⟨_, _, rfl, rfl⟩
theorem tcall2 : Statement (.tcall2) := ⟨_, _, rfl, rfl⟩
theorem andAIndX : Statement (.andAIndX) := ⟨_, _, rfl, rfl⟩
theorem pushA : Statement (.pushA) := ⟨_, _, rfl, rfl⟩
theorem tcall3 : Statement (.tcall3) := ⟨_, _, rfl, rfl⟩
theorem andIndXIndY : Statement (.andIndXIndY) := ⟨_, _, rfl, rfl⟩
theorem rolA : Statement (.rolA) := ⟨_, _, rfl, rfl⟩
theorem incX : Statement (.incX) := ⟨_, _, rfl, rfl⟩
theorem setp : Statement (.setp) := ⟨_, _, rfl, rfl⟩
theorem tcall4 : Statement (.tcall4) := ⟨_, _, rfl, rfl⟩
theorem eorAIndX : Statement (.eorAIndX) := ⟨_, _, rfl, rfl⟩
theorem pushX : Statement (.pushX) := ⟨_, _, rfl, rfl⟩
theorem tcall5 : Statement (.tcall5) := ⟨_, _, rfl, rfl⟩
theorem eorIndXIndY : Statement (.eorIndXIndY) := ⟨_, _, rfl, rfl⟩
theorem lsrA : Statement (.lsrA) := ⟨_, _, rfl, rfl⟩
theorem movXA : Statement (.movXA) := ⟨_, _, rfl, rfl⟩
theorem clrc : Statement (.clrc) := ⟨_, _, rfl, rfl⟩
theorem tcall6 : Statement (.tcall6) := ⟨_, _, rfl, rfl⟩
theorem cmpAIndX : Statement (.cmpAIndX) := ⟨_, _, rfl, rfl⟩
theorem pushY : Statement (.pushY) := ⟨_, _, rfl, rfl⟩
theorem ret : Statement (.ret) := ⟨_, _, rfl, rfl⟩
theorem tcall7 : Statement (.tcall7) := ⟨_, _, rfl, rfl⟩
theorem cmpIndXIndY : Statement (.cmpIndXIndY) := ⟨_, _, rfl, rfl⟩
theorem rorA : Statement (.rorA) := ⟨_, _, rfl, rfl⟩
theorem movAX : Statement (.movAX) := ⟨_, _, rfl, rfl⟩
theorem reti : Statement (.reti) := ⟨_, _, rfl, rfl⟩
theorem setc : Statement (.setc) := ⟨_, _, rfl, rfl⟩
theorem tcall8 : Statement (.tcall8) := ⟨_, _, rfl, rfl⟩
theorem adcAIndX : Statement (.adcAIndX) := ⟨_, _, rfl, rfl⟩
theorem popPsw : Statement (.popPsw) := ⟨_, _, rfl, rfl⟩
theorem tcall9 : Statement (.tcall9) := ⟨_, _, rfl, rfl⟩
theorem adcIndXIndY : Statement (.adcIndXIndY) := ⟨_, _, rfl, rfl⟩
theorem decA : Statement (.decA) := ⟨_, _, rfl, rfl⟩
theorem movXSP : Statement (.movXSP) := ⟨_, _, rfl, rfl⟩
theorem divAXY : Statement (.divAXY) := ⟨_, _, rfl, rfl⟩
theorem xcn : Statement (.xcn) := ⟨_, _, rfl, rfl⟩
theorem ei : Statement (.ei) := ⟨_, _, rfl, rfl⟩
theorem tcall10 : Statement (.tcall10) := ⟨_, _, rfl, rfl⟩
theorem sbcAIndX : Statement (.sbcAIndX) := ⟨_, _, rfl, rfl⟩
theorem popA : Statement (.popA) := ⟨_, _, rfl, rfl⟩
theorem movIndXIncA : Statement (.movIndXIncA) := ⟨_, _, rfl, rfl⟩
theorem tcall11 : Statement (.tcall11) := ⟨_, _, rfl, rfl⟩
theorem sbcIndXIndY : Statement (.sbcIndXIndY) := ⟨_, _, rfl, rfl⟩
theorem incA : Statement (.incA) := ⟨_, _, rfl, rfl⟩
theorem movSPX : Statement (.movSPX) := ⟨_, _, rfl, rfl⟩
theorem das : Statement (.das) := ⟨_, _, rfl, rfl⟩
theorem movAIndXInc : Statement (.movAIndXInc) := ⟨_, _, rfl, rfl⟩
theorem di : Statement (.di) := ⟨_, _, rfl, rfl⟩
theorem tcall12 : Statement (.tcall12) := ⟨_, _, rfl, rfl⟩
theorem movIndXA : Statement (.movIndXA) := ⟨_, _, rfl, rfl⟩
theorem popX : Statement (.popX) := ⟨_, _, rfl, rfl⟩
theorem mulAX : Statement (.mulAX) := ⟨_, _, rfl, rfl⟩
theorem tcall13 : Statement (.tcall13) := ⟨_, _, rfl, rfl⟩
theorem decY : Statement (.decY) := ⟨_, _, rfl, rfl⟩
theorem movAY : Statement (.movAY) := ⟨_, _, rfl, rfl⟩
theorem daa : Statement (.daa) := ⟨_, _, rfl, rfl⟩
theorem clrv : Statement (.clrv) := ⟨_, _, rfl, rfl⟩
theorem tcall14 : Statement (.tcall14) := ⟨_, _, rfl, rfl⟩
theorem movAIndX : Statement (.movAIndX) := ⟨_, _, rfl, rfl⟩
theorem notc : Statement (.notc) := ⟨_, _, rfl, rfl⟩
theorem popY : Statement (.popY) := ⟨_, _, rfl, rfl⟩
theorem sleep : Statement (.sleep) := ⟨_, _, rfl, rfl⟩
theorem tcall15 : Statement (.tcall15) := ⟨_, _, rfl, rfl⟩
theorem incY : Statement (.incY) := ⟨_, _, rfl, rfl⟩
theorem movYA : Statement (.movYA) := ⟨_, _, rfl, rfl⟩
theorem stop : Statement (.stop) := ⟨_, _, rfl, rfl⟩

end Sys2Proof.Laws.Encoding
end

