-- ==== Sys2Proof/Laws/Step.lean ====
section
/-! SUPPORT. The three things a step can be, accounts of the bus put together, what one pass of a block move does to each
field, and the cycle counter as its reader sees it. -/

namespace Sys2Proof.Machine

variable (p : Parameters) (s : State)

/-! ### A step -/

/-- A HALTED core idles (R384). -/
theorem stepWith_of_halted (h : s.halt = true) : stepWith p s = .next s.idle := by
  simp [stepWith, h]

/-- A RUNNING core whose opcode byte has a slot makes the block move of the slot (R86). -/
theorem stepWith_of_slot {bm : BlockMove} (h : s.halt = false)
    (hs : p.blkmovSlots.lookup s.opcodeByte = some bm) : stepWith p s = .next (s.blockMove bm) := by
  simp [stepWith, h, hs]

/-- A RUNNING core whose opcode byte has no slot runs the instruction (R381). -/
theorem stepWith_of_no_slot (h : s.halt = false) (hs : p.blkmovSlots.lookup s.opcodeByte = none) :
    stepWith p s = exec s.nextInstr s := by
  simp [stepWith, h, hs]

/-- The modelled core has no slot, so that it runs the instruction. -/
theorem step_of_running (h : s.halt = false) : step s = exec s.nextInstr s :=
  stepWith_of_no_slot Config.parameters s h rfl

/-- The core with the default parameters is the modelled core. -/
theorem coreWith_default : coreWith Config.parameters = Sys2Proof.core := rfl

/-! ### Accounts of the bus -/

/-- Two accounts one after the other are one. -/
theorem accounts_append (oracle : List (Nat × Byte)) (first rest : List BusEvent) (n : Nat) (m last : Memory) :
    Accounts oracle n m (first ++ rest) last ↔
      ∃ mid, Accounts oracle n m first mid ∧ Accounts oracle (n + first.length) mid rest last := by
  induction first generalizing n m with
  | nil => simp [Accounts]
  | cons e first ih => cases e <;> simp [Accounts, ih, Nat.add_assoc, Nat.add_comm 1, and_assoc]

/-- Internal cycles leave memory as it is. -/
@[simp] theorem accounts_idles (oracle : List (Nat × Byte)) (k n : Nat) (m last : Memory) :
    Accounts oracle n m (List.replicate k .idle) last ↔ m = last := by
  induction k generalizing n with
  | zero => simp [Accounts]
  | succ k ih => simp [List.replicate, Accounts, ih]

/-! ### One pass of a block move (R186) -/

@[simp] theorem State.setReg_getReg_same (r : RegIndex) (v : Byte) : (s.setReg r v).getReg r = v := by
  cases r <;> rfl

theorem State.setReg_getReg_other {r q : RegIndex} (v : Byte) (h : q ≠ r) :
    (s.setReg r v).getReg q = s.getReg q := by
  rw [State.getReg_setReg, if_neg h]

@[simp] theorem State.blockPass_pc (bm : BlockMove) : (s.blockPass bm).pc = s.pc := by simp [State.blockPass]
@[simp] theorem State.blockPass_psw (bm : BlockMove) : (s.blockPass bm).psw = s.psw := by simp [State.blockPass]
@[simp] theorem State.blockPass_halt (bm : BlockMove) : (s.blockPass bm).halt = s.halt := by simp [State.blockPass]
@[simp] theorem State.blockPass_oracle (bm : BlockMove) : (s.blockPass bm).oracle = s.oracle := by
  simp [State.blockPass]
@[simp] theorem State.blockPass_cycles (bm : BlockMove) :
    (s.blockPass bm).cycles = s.cycles + 2 + (bm.iter - 2) := by
  simp [State.blockPass]

/-- The byte at the source index is written at the destination index. -/
@[simp] theorem State.blockPass_mem (bm : BlockMove) :
    (s.blockPass bm).mem =
      memStore s.mem (s.dp (s.getReg bm.dst)).toNat (s.busAt 0 (s.dp (s.getReg bm.src))) := by
  simp [State.blockPass]

/-- The two accesses of a pass, in their order, and its internal cycles. -/
@[simp] theorem State.blockPass_trace (bm : BlockMove) :
    (s.blockPass bm).trace =
      List.replicate (bm.iter - 2) .idle ++
        .write (s.dp (s.getReg bm.dst)) (s.busAt 0 (s.dp (s.getReg bm.src))) ::
          .read (s.dp (s.getReg bm.src)) (s.busAt 0 (s.dp (s.getReg bm.src))) :: s.trace := by
  simp [State.blockPass]

/-- The cycles of a pass leave the registers alone. -/
theorem State.getReg_moved (a b : Word) (v : Byte) (n : Nat) (q : RegIndex) :
    (((s.read a).write b v).idles n).getReg q = s.getReg q := by
  cases q <;> rfl

/-- The registers after a pass of a well-formed variant: the indexes one place on, the count one less, the rest kept. -/
theorem State.blockPass_getReg (bm : BlockMove) (h : bm.wf) (q : RegIndex) :
    (s.blockPass bm).getReg q =
      if q = bm.cnt then s.getReg q - 1
      else if q = bm.src ∨ q = bm.dst then blockAdvance bm.dir (s.getReg q)
      else s.getReg q := by
  obtain ⟨hsd, hsc, hdc, -, -⟩ := h
  by_cases hc : q = bm.cnt
  · subst hc
    simp [State.blockPass, State.getReg_setReg, State.getReg_moved, hsc.symm, hdc.symm]
  · by_cases hs : q = bm.src
    · subst hs
      simp [State.blockPass, State.getReg_setReg, State.getReg_moved, hsc, hsd]
    · by_cases hd : q = bm.dst
      · subst hd
        simp [State.blockPass, State.getReg_setReg, State.getReg_moved, hdc, hsd.symm]
      · simp [State.blockPass, State.getReg_setReg, State.getReg_moved, hc, hs, hd]

/-- The loop ends after the pass that brings the count to 0, and goes on after any other. -/
theorem State.blockLoop_succ (bm : BlockMove) (fuel : Nat) :
    State.blockLoop bm (fuel + 1) s =
      if (s.blockPass bm).getReg bm.cnt = 0 then s.blockPass bm else State.blockLoop bm fuel (s.blockPass bm) := rfl

/-! ### The cycle counter (R42) -/

variable {p}

theorem State.cycleCounter_of_none (h : p.cycleWidth = none) : s.cycleCounter p = s.cycles := by
  simp [State.cycleCounter, h]

theorem State.cycleCounter_of_some {w : Nat} (h : p.cycleWidth = some w) :
    s.cycleCounter p = s.cycles % 2 ^ w := by
  simp [State.cycleCounter, h]

/-- The modelled core's counter is the cycles consumed. -/
@[simp] theorem State.cycleCounter_default : s.cycleCounter Config.parameters = s.cycles := rfl

/-- A reader of a counter of any width takes the true delta, where it fits the width. -/
theorem counterDelta_eq_cyclesBetween {w : Nat} {t : State} (h : p.cycleWidth = some w) (hle : s.cycles ≤ t.cycles)
    (hlt : cyclesBetween s t < 2 ^ w) : counterDelta p s t = cyclesBetween s t := by
  simp only [counterDelta, h, State.cycleCounter, cyclesBetween] at hlt ⊢
  obtain ⟨d, hd⟩ := Nat.exists_eq_add_of_le hle
  have hs : s.cycles % 2 ^ w < 2 ^ w := Nat.mod_lt _ (Nat.two_pow_pos w)
  have hsplit := Nat.div_add_mod s.cycles (2 ^ w)
  rw [hd] at hlt ⊢
  rw [Nat.add_mod s.cycles d, Nat.mod_eq_of_lt (show d < 2 ^ w by omega)]
  rcases Nat.lt_or_ge (s.cycles % 2 ^ w + d) (2 ^ w) with hfit | hover
  · rw [Nat.mod_eq_of_lt hfit, show s.cycles % 2 ^ w + d + 2 ^ w - s.cycles % 2 ^ w = d + 2 ^ w by omega,
      Nat.add_mod_right, Nat.mod_eq_of_lt (by omega)]
    omega
  · rw [Nat.mod_eq_sub_mod hover, Nat.mod_eq_of_lt (show s.cycles % 2 ^ w + d - 2 ^ w < 2 ^ w by omega),
      show s.cycles % 2 ^ w + d - 2 ^ w + 2 ^ w - s.cycles % 2 ^ w = d by omega, Nat.mod_eq_of_lt (by omega)]
    omega

end Sys2Proof.Machine
end

