-- ==== Sys2Proof/Tests/Slice0.lean ====
section
/-! SUPPORT. Tests: the well-formedness check, the decoding of every opcode byte, one step of one instruction of every
mnemonic from the worked examples of the spec's rules, and a witness for the hypotheses of every statement. -/

namespace Sys2Proof.Tests

open Sys2Proof Sys2Proof.Machine

/-! ### Well-formedness (R78): the one check, on each of the eight bit-operand instructions -/

theorem test_wellFormed_refuses_wide_bit_address :
    [Instr.or1CBit 0x2000 0, .or1CNotBit 0x2000 1, .and1CBit 0x3FFF 2, .and1CNotBit 0x4000 3, .eor1CBit 0x8000 4,
      .mov1CBit 0xFFFF 5, .mov1BitC 0x2001 6, .not1Bit 0xE000 7].map Instr.wellFormed = List.replicate 8 false := by
  decide

theorem test_wellFormed_admits_top_bit_address :
    [Instr.or1CBit 0x1FFF 0, .or1CNotBit 0x1FFF 1, .and1CBit 0 2, .and1CNotBit 0x1FFF 3, .eor1CBit 0x1FFF 4,
      .mov1CBit 0x1FFF 5, .mov1BitC 0x1FFF 6, .not1Bit 0x1FFF 7].map Instr.wellFormed = List.replicate 8 true := by
  decide

/-! ### Decoding: every opcode byte, row by row of the matrix of R81, with operand bytes that differ

The bytes are those of the formats R71 to R79: a word operand 0x5634 is `34 56`; bit 5 of address 0x1234 is `34 B2`. -/

theorem test_decode_row0 :
    [ [0x00],
      [0x01],
      [0x02, 0x9C],
      [0x03, 0x71, 0xA2],
      [0x04, 0x9C],
      [0x05, 0x34, 0x56],
      [0x06],
      [0x07, 0x9C],
      [0x08, 0x9C],
      [0x09, 0x71, 0xA2],
      [0x0A, 0x34, 0xB2],
      [0x0B, 0x9C],
      [0x0C, 0x34, 0x56],
      [0x0D],
      [0x0E, 0x34, 0x56],
      [0x0F] ].map decode =
    [ .ok (.nop, []),
      .ok (.tcall0, []),
      .ok (.set1b0 0x9C, []),
      .ok (.bbs0 0x71 0xA2, []),
      .ok (.orADp 0x9C, []),
      .ok (.orAAbs 0x5634, []),
      .ok (.orAIndX, []),
      .ok (.orAIdxInd 0x9C, []),
      .ok (.orAImm 0x9C, []),
      .ok (.orDpDp 0xA2 0x71, []),
      .ok (.or1CBit 0x1234 5, []),
      .ok (.aslDp 0x9C, []),
      .ok (.aslAbs 0x5634, []),
      .ok (.pushPsw, []),
      .ok (.tset1Abs 0x5634, []),
      .ok (.brk, []) ] := by
  decide

theorem test_decode_row1 :
    [ [0x10, 0x9C],
      [0x11],
      [0x12, 0x9C],
      [0x13, 0x71, 0xA2],
      [0x14, 0x9C],
      [0x15, 0x34, 0x56],
      [0x16, 0x34, 0x56],
      [0x17, 0x9C],
      [0x18, 0x71, 0xA2],
      [0x19],
      [0x1A, 0x9C],
      [0x1B, 0x9C],
      [0x1C],
      [0x1D],
      [0x1E, 0x34, 0x56],
      [0x1F, 0x34, 0x56] ].map decode =
    [ .ok (.bpl 0x9C, []),
      .ok (.tcall1, []),
      .ok (.clr1b0 0x9C, []),
      .ok (.bbc0 0x71 0xA2, []),
      .ok (.orADpX 0x9C, []),
      .ok (.orAAbsX 0x5634, []),
      .ok (.orAAbsY 0x5634, []),
      .ok (.orAIndIdx 0x9C, []),
      .ok (.orDpImm 0xA2 0x71, []),
      .ok (.orIndXIndY, []),
      .ok (.decwDp 0x9C, []),
      .ok (.aslDpX 0x9C, []),
      .ok (.aslA, []),
      .ok (.decX, []),
      .ok (.cmpXAbs 0x5634, []),
      .ok (.jmpAbsXInd 0x5634, []) ] := by
  decide

theorem test_decode_row2 :
    [ [0x20],
      [0x21],
      [0x22, 0x9C],
      [0x23, 0x71, 0xA2],
      [0x24, 0x9C],
      [0x25, 0x34, 0x56],
      [0x26],
      [0x27, 0x9C],
      [0x28, 0x9C],
      [0x29, 0x71, 0xA2],
      [0x2A, 0x34, 0xB2],
      [0x2B, 0x9C],
      [0x2C, 0x34, 0x56],
      [0x2D],
      [0x2E, 0x71, 0xA2],
      [0x2F, 0x9C] ].map decode =
    [ .ok (.clrp, []),
      .ok (.tcall2, []),
      .ok (.set1b1 0x9C, []),
      .ok (.bbs1 0x71 0xA2, []),
      .ok (.andADp 0x9C, []),
      .ok (.andAAbs 0x5634, []),
      .ok (.andAIndX, []),
      .ok (.andAIdxInd 0x9C, []),
      .ok (.andAImm 0x9C, []),
      .ok (.andDpDp 0xA2 0x71, []),
      .ok (.or1CNotBit 0x1234 5, []),
      .ok (.rolDp 0x9C, []),
      .ok (.rolAbs 0x5634, []),
      .ok (.pushA, []),
      .ok (.cbneDp 0x71 0xA2, []),
      .ok (.bra 0x9C, []) ] := by
  decide

theorem test_decode_row3 :
    [ [0x30, 0x9C],
      [0x31],
      [0x32, 0x9C],
      [0x33, 0x71, 0xA2],
      [0x34, 0x9C],
      [0x35, 0x34, 0x56],
      [0x36, 0x34, 0x56],
      [0x37, 0x9C],
      [0x38, 0x71, 0xA2],
      [0x39],
      [0x3A, 0x9C],
      [0x3B, 0x9C],
      [0x3C],
      [0x3D],
      [0x3E, 0x9C],
      [0x3F, 0x34, 0x56] ].map decode =
    [ .ok (.bmi 0x9C, []),
      .ok (.tcall3, []),
      .ok (.clr1b1 0x9C, []),
      .ok (.bbc1 0x71 0xA2, []),
      .ok (.andADpX 0x9C, []),
      .ok (.andAAbsX 0x5634, []),
      .ok (.andAAbsY 0x5634, []),
      .ok (.andAIndIdx 0x9C, []),
      .ok (.andDpImm 0xA2 0x71, []),
      .ok (.andIndXIndY, []),
      .ok (.incwDp 0x9C, []),
      .ok (.rolDpX 0x9C, []),
      .ok (.rolA, []),
      .ok (.incX, []),
      .ok (.cmpXDp 0x9C, []),
      .ok (.call 0x5634, []) ] := by
  decide

theorem test_decode_row4 :
    [ [0x40],
      [0x41],
      [0x42, 0x9C],
      [0x43, 0x71, 0xA2],
      [0x44, 0x9C],
      [0x45, 0x34, 0x56],
      [0x46],
      [0x47, 0x9C],
      [0x48, 0x9C],
      [0x49, 0x71, 0xA2],
      [0x4A, 0x34, 0xB2],
      [0x4B, 0x9C],
      [0x4C, 0x34, 0x56],
      [0x4D],
      [0x4E, 0x34, 0x56],
      [0x4F, 0x9C] ].map decode =
    [ .ok (.setp, []),
      .ok (.tcall4, []),
      .ok (.set1b2 0x9C, []),
      .ok (.bbs2 0x71 0xA2, []),
      .ok (.eorADp 0x9C, []),
      .ok (.eorAAbs 0x5634, []),
      .ok (.eorAIndX, []),
      .ok (.eorAIdxInd 0x9C, []),
      .ok (.eorAImm 0x9C, []),
      .ok (.eorDpDp 0xA2 0x71, []),
      .ok (.and1CBit 0x1234 5, []),
      .ok (.lsrDp 0x9C, []),
      .ok (.lsrAbs 0x5634, []),
      .ok (.pushX, []),
      .ok (.tclr1Abs 0x5634, []),
      .ok (.pcall 0x9C, []) ] := by
  decide

theorem test_decode_row5 :
    [ [0x50, 0x9C],
      [0x51],
      [0x52, 0x9C],
      [0x53, 0x71, 0xA2],
      [0x54, 0x9C],
      [0x55, 0x34, 0x56],
      [0x56, 0x34, 0x56],
      [0x57, 0x9C],
      [0x58, 0x71, 0xA2],
      [0x59],
      [0x5A, 0x9C],
      [0x5B, 0x9C],
      [0x5C],
      [0x5D],
      [0x5E, 0x34, 0x56],
      [0x5F, 0x34, 0x56] ].map decode =
    [ .ok (.bvc 0x9C, []),
      .ok (.tcall5, []),
      .ok (.clr1b2 0x9C, []),
      .ok (.bbc2 0x71 0xA2, []),
      .ok (.eorADpX 0x9C, []),
      .ok (.eorAAbsX 0x5634, []),
      .ok (.eorAAbsY 0x5634, []),
      .ok (.eorAIndIdx 0x9C, []),
      .ok (.eorDpImm 0xA2 0x71, []),
      .ok (.eorIndXIndY, []),
      .ok (.cmpwAXDp 0x9C, []),
      .ok (.lsrDpX 0x9C, []),
      .ok (.lsrA, []),
      .ok (.movXA, []),
      .ok (.cmpYAbs 0x5634, []),
      .ok (.jmpAbs 0x5634, []) ] := by
  decide

theorem test_decode_row6 :
    [ [0x60],
      [0x61],
      [0x62, 0x9C],
      [0x63, 0x71, 0xA2],
      [0x64, 0x9C],
      [0x65, 0x34, 0x56],
      [0x66],
      [0x67, 0x9C],
      [0x68, 0x9C],
      [0x69, 0x71, 0xA2],
      [0x6A, 0x34, 0xB2],
      [0x6B, 0x9C],
      [0x6C, 0x34, 0x56],
      [0x6D],
      [0x6E, 0x71, 0xA2],
      [0x6F] ].map decode =
    [ .ok (.clrc, []),
      .ok (.tcall6, []),
      .ok (.set1b3 0x9C, []),
      .ok (.bbs3 0x71 0xA2, []),
      .ok (.cmpADp 0x9C, []),
      .ok (.cmpAAbs 0x5634, []),
      .ok (.cmpAIndX, []),
      .ok (.cmpAIdxInd 0x9C, []),
      .ok (.cmpAImm 0x9C, []),
      .ok (.cmpDpDp 0xA2 0x71, []),
      .ok (.and1CNotBit 0x1234 5, []),
      .ok (.rorDp 0x9C, []),
      .ok (.rorAbs 0x5634, []),
      .ok (.pushY, []),
      .ok (.dbnzDp 0x71 0xA2, []),
      .ok (.ret, []) ] := by
  decide

theorem test_decode_row7 :
    [ [0x70, 0x9C],
      [0x71],
      [0x72, 0x9C],
      [0x73, 0x71, 0xA2],
      [0x74, 0x9C],
      [0x75, 0x34, 0x56],
      [0x76, 0x34, 0x56],
      [0x77, 0x9C],
      [0x78, 0x71, 0xA2],
      [0x79],
      [0x7A, 0x9C],
      [0x7B, 0x9C],
      [0x7C],
      [0x7D],
      [0x7E, 0x9C],
      [0x7F] ].map decode =
    [ .ok (.bvs 0x9C, []),
      .ok (.tcall7, []),
      .ok (.clr1b3 0x9C, []),
      .ok (.bbc3 0x71 0xA2, []),
      .ok (.cmpADpX 0x9C, []),
      .ok (.cmpAAbsX 0x5634, []),
      .ok (.cmpAAbsY 0x5634, []),
      .ok (.cmpAIndIdx 0x9C, []),
      .ok (.cmpDpImm 0xA2 0x71, []),
      .ok (.cmpIndXIndY, []),
      .ok (.addwAXDp 0x9C, []),
      .ok (.rorDpX 0x9C, []),
      .ok (.rorA, []),
      .ok (.movAX, []),
      .ok (.cmpYDp 0x9C, []),
      .ok (.reti, []) ] := by
  decide

theorem test_decode_row8 :
    [ [0x80],
      [0x81],
      [0x82, 0x9C],
      [0x83, 0x71, 0xA2],
      [0x84, 0x9C],
      [0x85, 0x34, 0x56],
      [0x86],
      [0x87, 0x9C],
      [0x88, 0x9C],
      [0x89, 0x71, 0xA2],
      [0x8A, 0x34, 0xB2],
      [0x8B, 0x9C],
      [0x8C, 0x34, 0x56],
      [0x8D, 0x9C],
      [0x8E],
      [0x8F, 0x71, 0xA2] ].map decode =
    [ .ok (.setc, []),
      .ok (.tcall8, []),
      .ok (.set1b4 0x9C, []),
      .ok (.bbs4 0x71 0xA2, []),
      .ok (.adcADp 0x9C, []),
      .ok (.adcAAbs 0x5634, []),
      .ok (.adcAIndX, []),
      .ok (.adcAIdxInd 0x9C, []),
      .ok (.adcAImm 0x9C, []),
      .ok (.adcDpDp 0xA2 0x71, []),
      .ok (.eor1CBit 0x1234 5, []),
      .ok (.decDp 0x9C, []),
      .ok (.decAbs 0x5634, []),
      .ok (.movYImm 0x9C, []),
      .ok (.popPsw, []),
      .ok (.movDpImm 0xA2 0x71, []) ] := by
  decide

theorem test_decode_row9 :
    [ [0x90, 0x9C],
      [0x91],
      [0x92, 0x9C],
      [0x93, 0x71, 0xA2],
      [0x94, 0x9C],
      [0x95, 0x34, 0x56],
      [0x96, 0x34, 0x56],
      [0x97, 0x9C],
      [0x98, 0x71, 0xA2],
      [0x99],
      [0x9A, 0x9C],
      [0x9B, 0x9C],
      [0x9C],
      [0x9D],
      [0x9E],
      [0x9F] ].map decode =
    [ .ok (.bcc 0x9C, []),
      .ok (.tcall9, []),
      .ok (.clr1b4 0x9C, []),
      .ok (.bbc4 0x71 0xA2, []),
      .ok (.adcADpX 0x9C, []),
      .ok (.adcAAbsX 0x5634, []),
      .ok (.adcAAbsY 0x5634, []),
      .ok (.adcAIndIdx 0x9C, []),
      .ok (.adcDpImm 0xA2 0x71, []),
      .ok (.adcIndXIndY, []),
      .ok (.subwAXDp 0x9C, []),
      .ok (.decDpX 0x9C, []),
      .ok (.decA, []),
      .ok (.movXSP, []),
      .ok (.divAXY, []),
      .ok (.xcn, []) ] := by
  decide

theorem test_decode_rowA :
    [ [0xA0],
      [0xA1],
      [0xA2, 0x9C],
      [0xA3, 0x71, 0xA2],
      [0xA4, 0x9C],
      [0xA5, 0x34, 0x56],
      [0xA6],
      [0xA7, 0x9C],
      [0xA8, 0x9C],
      [0xA9, 0x71, 0xA2],
      [0xAA, 0x34, 0xB2],
      [0xAB, 0x9C],
      [0xAC, 0x34, 0x56],
      [0xAD, 0x9C],
      [0xAE],
      [0xAF] ].map decode =
    [ .ok (.ei, []),
      .ok (.tcall10, []),
      .ok (.set1b5 0x9C, []),
      .ok (.bbs5 0x71 0xA2, []),
      .ok (.sbcADp 0x9C, []),
      .ok (.sbcAAbs 0x5634, []),
      .ok (.sbcAIndX, []),
      .ok (.sbcAIdxInd 0x9C, []),
      .ok (.sbcAImm 0x9C, []),
      .ok (.sbcDpDp 0xA2 0x71, []),
      .ok (.mov1CBit 0x1234 5, []),
      .ok (.incDp 0x9C, []),
      .ok (.incAbs 0x5634, []),
      .ok (.cmpYImm 0x9C, []),
      .ok (.popA, []),
      .ok (.movIndXIncA, []) ] := by
  decide

theorem test_decode_rowB :
    [ [0xB0, 0x9C],
      [0xB1],
      [0xB2, 0x9C],
      [0xB3, 0x71, 0xA2],
      [0xB4, 0x9C],
      [0xB5, 0x34, 0x56],
      [0xB6, 0x34, 0x56],
      [0xB7, 0x9C],
      [0xB8, 0x71, 0xA2],
      [0xB9],
      [0xBA, 0x9C],
      [0xBB, 0x9C],
      [0xBC],
      [0xBD],
      [0xBE],
      [0xBF] ].map decode =
    [ .ok (.bcs 0x9C, []),
      .ok (.tcall11, []),
      .ok (.clr1b5 0x9C, []),
      .ok (.bbc5 0x71 0xA2, []),
      .ok (.sbcADpX 0x9C, []),
      .ok (.sbcAAbsX 0x5634, []),
      .ok (.sbcAAbsY 0x5634, []),
      .ok (.sbcAIndIdx 0x9C, []),
      .ok (.sbcDpImm 0xA2 0x71, []),
      .ok (.sbcIndXIndY, []),
      .ok (.movwAXDp 0x9C, []),
      .ok (.incDpX 0x9C, []),
      .ok (.incA, []),
      .ok (.movSPX, []),
      .ok (.das, []),
      .ok (.movAIndXInc, []) ] := by
  decide

theorem test_decode_rowC :
    [ [0xC0],
      [0xC1],
      [0xC2, 0x9C],
      [0xC3, 0x71, 0xA2],
      [0xC4, 0x9C],
      [0xC5, 0x34, 0x56],
      [0xC6],
      [0xC7, 0x9C],
      [0xC8, 0x9C],
      [0xC9, 0x34, 0x56],
      [0xCA, 0x34, 0xB2],
      [0xCB, 0x9C],
      [0xCC, 0x34, 0x56],
      [0xCD, 0x9C],
      [0xCE],
      [0xCF] ].map decode =
    [ .ok (.di, []),
      .ok (.tcall12, []),
      .ok (.set1b6 0x9C, []),
      .ok (.bbs6 0x71 0xA2, []),
      .ok (.movDpA 0x9C, []),
      .ok (.movAbsA 0x5634, []),
      .ok (.movIndXA, []),
      .ok (.movIdxIndA 0x9C, []),
      .ok (.cmpXImm 0x9C, []),
      .ok (.movAbsX 0x5634, []),
      .ok (.mov1BitC 0x1234 5, []),
      .ok (.movDpY 0x9C, []),
      .ok (.movAbsY 0x5634, []),
      .ok (.movXImm 0x9C, []),
      .ok (.popX, []),
      .ok (.mulAX, []) ] := by
  decide

theorem test_decode_rowD :
    [ [0xD0, 0x9C],
      [0xD1],
      [0xD2, 0x9C],
      [0xD3, 0x71, 0xA2],
      [0xD4, 0x9C],
      [0xD5, 0x34, 0x56],
      [0xD6, 0x34, 0x56],
      [0xD7, 0x9C],
      [0xD8, 0x9C],
      [0xD9, 0x9C],
      [0xDA, 0x9C],
      [0xDB, 0x9C],
      [0xDC],
      [0xDD],
      [0xDE, 0x71, 0xA2],
      [0xDF] ].map decode =
    [ .ok (.bne 0x9C, []),
      .ok (.tcall13, []),
      .ok (.clr1b6 0x9C, []),
      .ok (.bbc6 0x71 0xA2, []),
      .ok (.movDpXA 0x9C, []),
      .ok (.movAbsXA 0x5634, []),
      .ok (.movAbsYA 0x5634, []),
      .ok (.movIndIdxA 0x9C, []),
      .ok (.movDpX 0x9C, []),
      .ok (.movDpYX 0x9C, []),
      .ok (.movwDpAX 0x9C, []),
      .ok (.movDpXY 0x9C, []),
      .ok (.decY, []),
      .ok (.movAY, []),
      .ok (.cbneDpX 0x71 0xA2, []),
      .ok (.daa, []) ] := by
  decide

theorem test_decode_rowE :
    [ [0xE0],
      [0xE1],
      [0xE2, 0x9C],
      [0xE3, 0x71, 0xA2],
      [0xE4, 0x9C],
      [0xE5, 0x34, 0x56],
      [0xE6],
      [0xE7, 0x9C],
      [0xE8, 0x9C],
      [0xE9, 0x34, 0x56],
      [0xEA, 0x34, 0xB2],
      [0xEB, 0x9C],
      [0xEC, 0x34, 0x56],
      [0xED],
      [0xEE],
      [0xEF] ].map decode =
    [ .ok (.clrv, []),
      .ok (.tcall14, []),
      .ok (.set1b7 0x9C, []),
      .ok (.bbs7 0x71 0xA2, []),
      .ok (.movADp 0x9C, []),
      .ok (.movAAbs 0x5634, []),
      .ok (.movAIndX, []),
      .ok (.movAIdxInd 0x9C, []),
      .ok (.movAImm 0x9C, []),
      .ok (.movXAbs 0x5634, []),
      .ok (.not1Bit 0x1234 5, []),
      .ok (.movYDp 0x9C, []),
      .ok (.movYAbs 0x5634, []),
      .ok (.notc, []),
      .ok (.popY, []),
      .ok (.sleep, []) ] := by
  decide

theorem test_decode_rowF :
    [ [0xF0, 0x9C],
      [0xF1],
      [0xF2, 0x9C],
      [0xF3, 0x71, 0xA2],
      [0xF4, 0x9C],
      [0xF5, 0x34, 0x56],
      [0xF6, 0x34, 0x56],
      [0xF7, 0x9C],
      [0xF8, 0x9C],
      [0xF9, 0x9C],
      [0xFA, 0x71, 0xA2],
      [0xFB, 0x9C],
      [0xFC],
      [0xFD],
      [0xFE, 0x9C],
      [0xFF] ].map decode =
    [ .ok (.beq 0x9C, []),
      .ok (.tcall15, []),
      .ok (.clr1b7 0x9C, []),
      .ok (.bbc7 0x71 0xA2, []),
      .ok (.movADpX 0x9C, []),
      .ok (.movAAbsX 0x5634, []),
      .ok (.movAAbsY 0x5634, []),
      .ok (.movAIndIdx 0x9C, []),
      .ok (.movXDp 0x9C, []),
      .ok (.movXDpY 0x9C, []),
      .ok (.movDpDp 0xA2 0x71, []),
      .ok (.movYDpX 0x9C, []),
      .ok (.incY, []),
      .ok (.movYA, []),
      .ok (.dbnzY 0x9C, []),
      .ok (.stop, []) ] := by
  decide

theorem test_decode_leaves_the_rest : decode [0xE8, 0x01, 0xE8, 0x02] = .ok (.movAImm 0x01, [0xE8, 0x02]) := by
  decide

theorem test_decode_needs_operands :
    [[], [0xE8], [0xE5], [0xE5, 0x34]].map decode =
      [.error .noOpcode, .error (.missingOperand1 0xE8), .error (.missingOperand1 0xE5),
        .error (.missingOperand2 0xE5 0x34)] := by
  decide

/-! ### One step from the default state of 95_test_vectors.md section 2.0

Each theorem is the worked example of the rule its docstring names; it shows the registers the example names, PC,
the cycles spent and the bytes of memory it names. -/

/-- The default start state with some registers set, some bytes placed, and the instruction's bytes at PC. -/
def startAt (a x y sp psw : Byte) (pc : Word) (cells : List (Nat × Byte)) : State :=
  { State.reset with
    a := a, x := x, y := y, sp := sp, psw := Psw.ofByte psw, pc := pc, cycles := 0, trace := [],
    mem := cells.foldl (fun m c => memStore m c.1 c.2) [] }

/-- What a test looks at: A, X, Y, SP, PSW as a byte, PC and the cycles spent. -/
structure Seen where
  a : Byte
  x : Byte
  y : Byte
  sp : Byte
  psw : Byte
  pc : Word
  cycles : Nat
  deriving DecidableEq, Repr

/-- What one step leaves. -/
def stepLeaves (s : State) : Option Seen :=
  match step s with
  | .next t => some ⟨t.a, t.x, t.y, t.sp, t.psw.toByte, t.pc, t.cycles⟩
  | .fault _ => none
  | .refused _ => none

/-- What one step leaves at some addresses. -/
def stepLeavesAt (s : State) (as : List Word) : Option (List Byte) :=
  match step s with
  | .next t => some (as.map t.memAt)
  | .fault _ => none
  | .refused _ => none

/-- R158, its example. -/
theorem test_movAIndIdx_step :
    stepLeaves (startAt 0x00 0x00 0x10 0xEF 0x00 0x0200
      [(0x0008, 0x80), (0x0040, 0xF8), (0x0041, 0xFF), (0x0200, 0xF7), (0x0201, 0x40)]) =
    some ⟨0x80, 0x00, 0x10, 0xEF, 0x80, 0x0202, 6⟩ := by
  decide

/-- R173, its example. -/
theorem test_movIndIdxA_step :
    stepLeaves (startAt 0x3C 0x00 0x01 0xEF 0x00 0x0200
      [(0x0000, 0x1F), (0x00FF, 0xFF), (0x0200, 0xD7), (0x0201, 0xFF)]) =
    some ⟨0x3C, 0x00, 0x01, 0xEF, 0x00, 0x0202, 7⟩ := by
  decide

/-- R173, the bytes of its example. -/
theorem test_movIndIdxA_memory :
    stepLeavesAt (startAt 0x3C 0x00 0x01 0xEF 0x00 0x0200
      [(0x0000, 0x1F), (0x00FF, 0xFF), (0x0200, 0xD7), (0x0201, 0xFF)]) [0x2000] =
    some [0x3C] := by
  decide

/-- R182, its example. -/
theorem test_movwAXDp_step :
    stepLeaves (startAt 0x00 0x00 0x00 0xEF 0x00 0x0200
      [(0x0050, 0x00), (0x0051, 0x80), (0x0200, 0xBA), (0x0201, 0x50)]) =
    some ⟨0x80, 0x00, 0x00, 0xEF, 0x80, 0x0202, 5⟩ := by
  decide

/-- R184, its example. -/
theorem test_mov1CBit_step :
    stepLeaves (startAt 0x00 0x00 0x00 0xEF 0x00 0x0200
      [(0x1ABC, 0x20), (0x0200, 0xAA), (0x0201, 0xBC), (0x0202, 0xBA)]) =
    some ⟨0x00, 0x00, 0x00, 0xEF, 0x01, 0x0203, 4⟩ := by
  decide

/-- R191, its example. -/
theorem test_bra_step :
    stepLeaves (startAt 0x00 0x00 0x00 0xEF 0x00 0x0200
      [(0x0200, 0x2F), (0x0201, 0xFE)]) =
    some ⟨0x00, 0x00, 0x00, 0xEF, 0x00, 0x0200, 4⟩ := by
  decide

/-- R192, its example. -/
theorem test_beq_step :
    stepLeaves (startAt 0x00 0x00 0x00 0xEF 0x02 0x0200
      [(0x0200, 0xF0), (0x0201, 0x10)]) =
    some ⟨0x00, 0x00, 0x00, 0xEF, 0x02, 0x0212, 4⟩ := by
  decide

/-- R193, its example. -/
theorem test_bne_step :
    stepLeaves (startAt 0x00 0x00 0x00 0xEF 0x00 0x0200
      [(0x0200, 0xD0), (0x0201, 0x10)]) =
    some ⟨0x00, 0x00, 0x00, 0xEF, 0x00, 0x0212, 4⟩ := by
  decide

/-- R194, its example. -/
theorem test_bcs_step :
    stepLeaves (startAt 0x00 0x00 0x00 0xEF 0x01 0x0200
      [(0x0200, 0xB0), (0x0201, 0x10)]) =
    some ⟨0x00, 0x00, 0x00, 0xEF, 0x01, 0x0212, 4⟩ := by
  decide

/-- R195, its example. -/
theorem test_bcc_step :
    stepLeaves (startAt 0x00 0x00 0x00 0xEF 0x00 0x0200
      [(0x0200, 0x90), (0x0201, 0x10)]) =
    some ⟨0x00, 0x00, 0x00, 0xEF, 0x00, 0x0212, 4⟩ := by
  decide

/-- R196, its example. -/
theorem test_bvs_step :
    stepLeaves (startAt 0x00 0x00 0x00 0xEF 0x40 0x0200
      [(0x0200, 0x70), (0x0201, 0x10)]) =
    some ⟨0x00, 0x00, 0x00, 0xEF, 0x40, 0x0212, 4⟩ := by
  decide

/-- R197, its example. -/
theorem test_bvc_step :
    stepLeaves (startAt 0x00 0x00 0x00 0xEF 0x00 0x0200
      [(0x0200, 0x50), (0x0201, 0x10)]) =
    some ⟨0x00, 0x00, 0x00, 0xEF, 0x00, 0x0212, 4⟩ := by
  decide

/-- R198, its example. -/
theorem test_bmi_step :
    stepLeaves (startAt 0x00 0x00 0x00 0xEF 0x80 0x0200
      [(0x0200, 0x30), (0x0201, 0x10)]) =
    some ⟨0x00, 0x00, 0x00, 0xEF, 0x80, 0x0212, 4⟩ := by
  decide

/-- R199, its example. -/
theorem test_bpl_step :
    stepLeaves (startAt 0x00 0x00 0x00 0xEF 0x00 0x0200
      [(0x0200, 0x10), (0x0201, 0x10)]) =
    some ⟨0x00, 0x00, 0x00, 0xEF, 0x00, 0x0212, 4⟩ := by
  decide

/-- R200, its example. -/
theorem test_bbs0_step :
    stepLeaves (startAt 0x00 0x00 0x00 0xEF 0x00 0x0200
      [(0x0020, 0x01), (0x0200, 0x03), (0x0201, 0x20), (0x0202, 0x05)]) =
    some ⟨0x00, 0x00, 0x00, 0xEF, 0x00, 0x0208, 7⟩ := by
  decide

/-- R201, its example. -/
theorem test_bbc0_step :
    stepLeaves (startAt 0x00 0x00 0x00 0xEF 0x00 0x0200
      [(0x0020, 0xFE), (0x0200, 0x13), (0x0201, 0x20), (0x0202, 0xFB)]) =
    some ⟨0x00, 0x00, 0x00, 0xEF, 0x00, 0x01FE, 7⟩ := by
  decide

/-- R203, its example. -/
theorem test_cbneDpX_step :
    stepLeaves (startAt 0x7E 0x01 0x00 0xEF 0x00 0x0200
      [(0x0031, 0x7E), (0x0200, 0xDE), (0x0201, 0x30), (0x0202, 0x08)]) =
    some ⟨0x7E, 0x01, 0x00, 0xEF, 0x00, 0x0203, 6⟩ := by
  decide

/-- R204, its example. -/
theorem test_dbnzDp_step :
    stepLeaves (startAt 0x00 0x00 0x00 0xEF 0x00 0x0200
      [(0x0040, 0x02), (0x0200, 0x6E), (0x0201, 0x40), (0x0202, 0xFD)]) =
    some ⟨0x00, 0x00, 0x00, 0xEF, 0x00, 0x0200, 7⟩ := by
  decide

/-- R204, the bytes of its example. -/
theorem test_dbnzDp_memory :
    stepLeavesAt (startAt 0x00 0x00 0x00 0xEF 0x00 0x0200
      [(0x0040, 0x02), (0x0200, 0x6E), (0x0201, 0x40), (0x0202, 0xFD)]) [0x0040] =
    some [0x01] := by
  decide

/-- R207, its example. -/
theorem test_jmpAbsXInd_step :
    stepLeaves (startAt 0x00 0x02 0x00 0xEF 0x00 0x0200
      [(0x3002, 0x78), (0x3003, 0x56), (0x0200, 0x1F), (0x0201, 0x00), (0x0202, 0x30)]) =
    some ⟨0x00, 0x02, 0x00, 0xEF, 0x00, 0x5678, 6⟩ := by
  decide

/-- R208, its example. -/
theorem test_call_step :
    stepLeaves (startAt 0x00 0x00 0x00 0x00 0x00 0x0200
      [(0x0200, 0x3F), (0x0201, 0x00), (0x0202, 0x40)]) =
    some ⟨0x00, 0x00, 0x00, 0xFE, 0x00, 0x4000, 8⟩ := by
  decide

/-- R208, the bytes of its example. -/
theorem test_call_memory :
    stepLeavesAt (startAt 0x00 0x00 0x00 0x00 0x00 0x0200
      [(0x0200, 0x3F), (0x0201, 0x00), (0x0202, 0x40)]) [0x0100, 0x01FF] =
    some [0x02, 0x03] := by
  decide

/-- R209, its example. -/
theorem test_pcall_step :
    stepLeaves (startAt 0x00 0x00 0x00 0xEF 0x00 0x0200
      [(0x0200, 0x4F), (0x0201, 0x80)]) =
    some ⟨0x00, 0x00, 0x00, 0xED, 0x00, 0xFF80, 6⟩ := by
  decide

/-- R209, the bytes of its example. -/
theorem test_pcall_memory :
    stepLeavesAt (startAt 0x00 0x00 0x00 0xEF 0x00 0x0200
      [(0x0200, 0x4F), (0x0201, 0x80)]) [0x01EF, 0x01EE] =
    some [0x02, 0x02] := by
  decide

/-- R210, its example. -/
theorem test_tcall0_step :
    stepLeaves (startAt 0x00 0x00 0x00 0xEF 0x00 0x0200
      [(0xFFDE, 0x00), (0xFFDF, 0x50), (0x0200, 0x01)]) =
    some ⟨0x00, 0x00, 0x00, 0xED, 0x00, 0x5000, 8⟩ := by
  decide

/-- R210, the bytes of its example. -/
theorem test_tcall0_memory :
    stepLeavesAt (startAt 0x00 0x00 0x00 0xEF 0x00 0x0200
      [(0xFFDE, 0x00), (0xFFDF, 0x50), (0x0200, 0x01)]) [0x01EF, 0x01EE] =
    some [0x02, 0x01] := by
  decide

/-- R211, its example. -/
theorem test_brk_step :
    stepLeaves (startAt 0x00 0x00 0x00 0xEF 0x85 0x0200
      [(0xFFDE, 0x00), (0xFFDF, 0x06), (0x0200, 0x0F)]) =
    some ⟨0x00, 0x00, 0x00, 0xEC, 0x91, 0x0600, 8⟩ := by
  decide

/-- R211, the bytes of its example. -/
theorem test_brk_memory :
    stepLeavesAt (startAt 0x00 0x00 0x00 0xEF 0x85 0x0200
      [(0xFFDE, 0x00), (0xFFDF, 0x06), (0x0200, 0x0F)]) [0x01EF, 0x01EE, 0x01ED] =
    some [0x02, 0x01, 0x85] := by
  decide

/-- R212, its example. -/
theorem test_ret_step :
    stepLeaves (startAt 0x00 0x00 0x00 0xFF 0x00 0x0200
      [(0x0100, 0x03), (0x0101, 0x02), (0x0200, 0x6F)]) =
    some ⟨0x00, 0x00, 0x00, 0x01, 0x00, 0x0203, 5⟩ := by
  decide

/-- R213, its example. -/
theorem test_reti_step :
    stepLeaves (startAt 0x00 0x00 0x00 0xEC 0x10 0x0200
      [(0x01ED, 0x85), (0x01EE, 0x01), (0x01EF, 0x02), (0x0200, 0x7F)]) =
    some ⟨0x00, 0x00, 0x00, 0xEF, 0x85, 0x0201, 6⟩ := by
  decide

/-- R229, its example. -/
theorem test_orAIndIdx_step :
    stepLeaves (startAt 0x0F 0x00 0x03 0xEF 0x00 0x0200
      [(0x0010, 0x00), (0x0011, 0x21), (0x2103, 0xF0), (0x0200, 0x17), (0x0201, 0x10)]) =
    some ⟨0xFF, 0x00, 0x03, 0xEF, 0x80, 0x0202, 6⟩ := by
  decide

/-- R230, its example. -/
theorem test_andAImm_step :
    stepLeaves (startAt 0x3C 0x00 0x00 0xEF 0x00 0x0200
      [(0x0200, 0x28), (0x0201, 0x0F)]) =
    some ⟨0x0C, 0x00, 0x00, 0xEF, 0x00, 0x0202, 2⟩ := by
  decide

/-- R239, its example. -/
theorem test_eorAImm_step :
    stepLeaves (startAt 0xFF 0x00 0x00 0xEF 0x00 0x0200
      [(0x0200, 0x48), (0x0201, 0x0F)]) =
    some ⟨0xF0, 0x00, 0x00, 0xEF, 0x80, 0x0202, 2⟩ := by
  decide

/-- R251, its example. -/
theorem test_cmpADpX_step :
    stepLeaves (startAt 0x10 0x11 0x00 0xEF 0x01 0x0200
      [(0x0001, 0x20), (0x0200, 0x74), (0x0201, 0xF0)]) =
    some ⟨0x10, 0x11, 0x00, 0xEF, 0x80, 0x0202, 4⟩ := by
  decide

/-- R262, its example. -/
theorem test_adcAAbsX_step :
    stepLeaves (startAt 0x7F 0x10 0x00 0xEF 0x00 0x0200
      [(0x2010, 0x01), (0x0200, 0x95), (0x0201, 0x00), (0x0202, 0x20)]) =
    some ⟨0x80, 0x10, 0x00, 0xEF, 0xC8, 0x0203, 5⟩ := by
  decide

/-- R266, its example. -/
theorem test_sbcAImm_step :
    stepLeaves (startAt 0x00 0x00 0x00 0xEF 0x01 0x0200
      [(0x0200, 0xA8), (0x0201, 0x00)]) =
    some ⟨0x00, 0x00, 0x00, 0xEF, 0x0B, 0x0202, 2⟩ := by
  decide

/-- R281, its example. -/
theorem test_addwAXDp_step :
    stepLeaves (startAt 0x7F 0xFF 0x00 0xEF 0x01 0x0200
      [(0x0010, 0x01), (0x0011, 0x00), (0x0200, 0x7A), (0x0201, 0x10)]) =
    some ⟨0x80, 0x00, 0x00, 0xEF, 0xC8, 0x0202, 5⟩ := by
  decide

/-- R282, its example. -/
theorem test_subwAXDp_step :
    stepLeaves (startAt 0x00 0x00 0x00 0xEF 0x00 0x0200
      [(0x0010, 0x01), (0x0011, 0x00), (0x0200, 0x9A), (0x0201, 0x10)]) =
    some ⟨0xFF, 0xFF, 0x00, 0xEF, 0x80, 0x0202, 5⟩ := by
  decide

/-- R283, its example. -/
theorem test_cmpwAXDp_step :
    stepLeaves (startAt 0x12 0x34 0x00 0xEF 0x00 0x0200
      [(0x0010, 0x34), (0x0011, 0x12), (0x0200, 0x5A), (0x0201, 0x10)]) =
    some ⟨0x12, 0x34, 0x00, 0xEF, 0x03, 0x0202, 4⟩ := by
  decide

/-- R285, its example. -/
theorem test_and1CNotBit_step :
    stepLeaves (startAt 0x00 0x00 0x00 0xEF 0x01 0x0200
      [(0x0123, 0x08), (0x0200, 0x6A), (0x0201, 0x23), (0x0202, 0x61)]) =
    some ⟨0x00, 0x00, 0x00, 0xEF, 0x00, 0x0203, 4⟩ := by
  decide

/-- R287, its example. -/
theorem test_or1CNotBit_step :
    stepLeaves (startAt 0x00 0x00 0x00 0xEF 0x01 0x0200
      [(0x0123, 0x08), (0x0200, 0x2A), (0x0201, 0x23), (0x0202, 0x61)]) =
    some ⟨0x00, 0x00, 0x00, 0xEF, 0x01, 0x0203, 5⟩ := by
  decide

/-- R288, its example. -/
theorem test_eor1CBit_step :
    stepLeaves (startAt 0x00 0x00 0x00 0xEF 0x01 0x0200
      [(0x0123, 0x08), (0x0200, 0x8A), (0x0201, 0x23), (0x0202, 0x61)]) =
    some ⟨0x00, 0x00, 0x00, 0xEF, 0x00, 0x0203, 5⟩ := by
  decide

/-- R293, its example. -/
theorem test_aslDpX_step :
    stepLeaves (startAt 0x00 0x02 0x00 0xEF 0x00 0x0200
      [(0x0001, 0x81), (0x0200, 0x1B), (0x0201, 0xFF)]) =
    some ⟨0x00, 0x02, 0x00, 0xEF, 0x01, 0x0202, 5⟩ := by
  decide

/-- R293, the bytes of its example. -/
theorem test_aslDpX_memory :
    stepLeavesAt (startAt 0x00 0x02 0x00 0xEF 0x00 0x0200
      [(0x0001, 0x81), (0x0200, 0x1B), (0x0201, 0xFF)]) [0x0001] =
    some [0x02] := by
  decide

/-- R295, its example. -/
theorem test_rolA_step :
    stepLeaves (startAt 0x80 0x00 0x00 0xEF 0x01 0x0200
      [(0x0200, 0x3C)]) =
    some ⟨0x01, 0x00, 0x00, 0xEF, 0x01, 0x0201, 2⟩ := by
  decide

/-- R299, its example. -/
theorem test_lsrA_step :
    stepLeaves (startAt 0x01 0x00 0x00 0xEF 0x01 0x0200
      [(0x0200, 0x5C)]) =
    some ⟨0x00, 0x00, 0x00, 0xEF, 0x03, 0x0201, 2⟩ := by
  decide

/-- R303, its example. -/
theorem test_rorA_step :
    stepLeaves (startAt 0x01 0x00 0x00 0xEF 0x01 0x0200
      [(0x0200, 0x7C)]) =
    some ⟨0x80, 0x00, 0x00, 0xEF, 0x81, 0x0201, 2⟩ := by
  decide

/-- R311, its example. -/
theorem test_incA_step :
    stepLeaves (startAt 0xFF 0x00 0x00 0xEF 0x01 0x0200
      [(0x0200, 0xBC)]) =
    some ⟨0x00, 0x00, 0x00, 0xEF, 0x03, 0x0201, 2⟩ := by
  decide

/-- R318, its example. -/
theorem test_decY_step :
    stepLeaves (startAt 0x00 0x00 0x01 0xEF 0x01 0x0200
      [(0x0200, 0xDC)]) =
    some ⟨0x00, 0x00, 0x00, 0xEF, 0x03, 0x0201, 2⟩ := by
  decide

/-- R319, its example. -/
theorem test_incwDp_step :
    stepLeaves (startAt 0x00 0x00 0x00 0xEF 0x00 0x0200
      [(0x0010, 0xFF), (0x0011, 0x00), (0x0200, 0x3A), (0x0201, 0x10)]) =
    some ⟨0x00, 0x00, 0x00, 0xEF, 0x00, 0x0202, 6⟩ := by
  decide

/-- R319, the bytes of its example. -/
theorem test_incwDp_memory :
    stepLeavesAt (startAt 0x00 0x00 0x00 0xEF 0x00 0x0200
      [(0x0010, 0xFF), (0x0011, 0x00), (0x0200, 0x3A), (0x0201, 0x10)]) [0x0010, 0x0011] =
    some [0x00, 0x01] := by
  decide

/-- R320, its example. -/
theorem test_decwDp_step :
    stepLeaves (startAt 0x00 0x00 0x00 0xEF 0x00 0x0200
      [(0x0010, 0x00), (0x0011, 0x01), (0x0200, 0x1A), (0x0201, 0x10)]) =
    some ⟨0x00, 0x00, 0x00, 0xEF, 0x00, 0x0202, 6⟩ := by
  decide

/-- R320, the bytes of its example. -/
theorem test_decwDp_memory :
    stepLeavesAt (startAt 0x00 0x00 0x00 0xEF 0x00 0x0200
      [(0x0010, 0x00), (0x0011, 0x01), (0x0200, 0x1A), (0x0201, 0x10)]) [0x0010, 0x0011] =
    some [0xFF, 0x00] := by
  decide

/-- R321, its example. -/
theorem test_tset1Abs_step :
    stepLeaves (startAt 0x0F 0x00 0x00 0xEF 0x00 0x0200
      [(0x2000, 0xF0), (0x0200, 0x0E), (0x0201, 0x00), (0x0202, 0x20)]) =
    some ⟨0x0F, 0x00, 0x00, 0xEF, 0x00, 0x0203, 6⟩ := by
  decide

/-- R321, the bytes of its example. -/
theorem test_tset1Abs_memory :
    stepLeavesAt (startAt 0x0F 0x00 0x00 0xEF 0x00 0x0200
      [(0x2000, 0xF0), (0x0200, 0x0E), (0x0201, 0x00), (0x0202, 0x20)]) [0x2000] =
    some [0xFF] := by
  decide

/-- R322, its example. -/
theorem test_tclr1Abs_step :
    stepLeaves (startAt 0x0F 0x00 0x00 0xEF 0x00 0x0200
      [(0x2000, 0xFF), (0x0200, 0x4E), (0x0201, 0x00), (0x0202, 0x20)]) =
    some ⟨0x0F, 0x00, 0x00, 0xEF, 0x00, 0x0203, 6⟩ := by
  decide

/-- R322, the bytes of its example. -/
theorem test_tclr1Abs_memory :
    stepLeavesAt (startAt 0x0F 0x00 0x00 0xEF 0x00 0x0200
      [(0x2000, 0xFF), (0x0200, 0x4E), (0x0201, 0x00), (0x0202, 0x20)]) [0x2000] =
    some [0xF0] := by
  decide

/-- R323, its example. -/
theorem test_set1b0_step :
    stepLeaves (startAt 0x00 0x00 0x00 0xEF 0x00 0x0200
      [(0x0010, 0x00), (0x0200, 0x02), (0x0201, 0x10)]) =
    some ⟨0x00, 0x00, 0x00, 0xEF, 0x00, 0x0202, 4⟩ := by
  decide

/-- R323, the bytes of its example. -/
theorem test_set1b0_memory :
    stepLeavesAt (startAt 0x00 0x00 0x00 0xEF 0x00 0x0200
      [(0x0010, 0x00), (0x0200, 0x02), (0x0201, 0x10)]) [0x0010] =
    some [0x01] := by
  decide

/-- R324, its example. -/
theorem test_clr1b0_step :
    stepLeaves (startAt 0x00 0x00 0x00 0xEF 0x00 0x0200
      [(0x0010, 0xFF), (0x0200, 0x12), (0x0201, 0x10)]) =
    some ⟨0x00, 0x00, 0x00, 0xEF, 0x00, 0x0202, 4⟩ := by
  decide

/-- R324, the bytes of its example. -/
theorem test_clr1b0_memory :
    stepLeavesAt (startAt 0x00 0x00 0x00 0xEF 0x00 0x0200
      [(0x0010, 0xFF), (0x0200, 0x12), (0x0201, 0x10)]) [0x0010] =
    some [0xFE] := by
  decide

/-- R325, its example. -/
theorem test_not1Bit_step :
    stepLeaves (startAt 0x00 0x00 0x00 0xEF 0x00 0x0200
      [(0x1FFF, 0x7F), (0x0200, 0xEA), (0x0201, 0xFF), (0x0202, 0xFF)]) =
    some ⟨0x00, 0x00, 0x00, 0xEF, 0x00, 0x0203, 5⟩ := by
  decide

/-- R325, the bytes of its example. -/
theorem test_not1Bit_memory :
    stepLeavesAt (startAt 0x00 0x00 0x00 0xEF 0x00 0x0200
      [(0x1FFF, 0x7F), (0x0200, 0xEA), (0x0201, 0xFF), (0x0202, 0xFF)]) [0x1FFF] =
    some [0xFF] := by
  decide

/-- R326, its example. -/
theorem test_orDpDp_step :
    stepLeaves (startAt 0xAA 0x00 0x00 0xEF 0x00 0x0200
      [(0x0010, 0xF0), (0x0020, 0x0F), (0x0200, 0x09), (0x0201, 0x10), (0x0202, 0x20)]) =
    some ⟨0xAA, 0x00, 0x00, 0xEF, 0x80, 0x0203, 6⟩ := by
  decide

/-- R326, the bytes of its example. -/
theorem test_orDpDp_memory :
    stepLeavesAt (startAt 0xAA 0x00 0x00 0xEF 0x00 0x0200
      [(0x0010, 0xF0), (0x0020, 0x0F), (0x0200, 0x09), (0x0201, 0x10), (0x0202, 0x20)]) [0x0020] =
    some [0xFF] := by
  decide

/-- R337, its example. -/
theorem test_cmpIndXIndY_step :
    stepLeaves (startAt 0xAA 0x20 0x10 0xEF 0x01 0x0200
      [(0x0010, 0x20), (0x0020, 0x10), (0x0200, 0x79)]) =
    some ⟨0xAA, 0x20, 0x10, 0xEF, 0x80, 0x0201, 5⟩ := by
  decide

/-- R341, its example. -/
theorem test_sbcDpDp_step :
    stepLeaves (startAt 0xAA 0x00 0x00 0xEF 0x01 0x0200
      [(0x0010, 0x00), (0x0020, 0x00), (0x0200, 0xA9), (0x0201, 0x10), (0x0202, 0x20)]) =
    some ⟨0xAA, 0x00, 0x00, 0xEF, 0x0B, 0x0203, 6⟩ := by
  decide

/-- R341, the bytes of its example. -/
theorem test_sbcDpDp_memory :
    stepLeavesAt (startAt 0xAA 0x00 0x00 0xEF 0x01 0x0200
      [(0x0010, 0x00), (0x0020, 0x00), (0x0200, 0xA9), (0x0201, 0x10), (0x0202, 0x20)]) [0x0020] =
    some [0x00] := by
  decide

/-- R351, its example. -/
theorem test_nop_step :
    stepLeaves (startAt 0x00 0x00 0x00 0xEF 0x00 0x0200
      [(0x0200, 0x00)]) =
    some ⟨0x00, 0x00, 0x00, 0xEF, 0x00, 0x0201, 2⟩ := by
  decide

/-- R352, its example. -/
theorem test_sleep_step :
    stepLeaves (startAt 0x00 0x00 0x00 0xEF 0x00 0x0200
      [(0x0200, 0xEF)]) =
    some ⟨0x00, 0x00, 0x00, 0xEF, 0x00, 0x0201, 3⟩ := by
  decide

/-- R353, its example. -/
theorem test_stop_step :
    stepLeaves (startAt 0x00 0x00 0x00 0xEF 0x00 0x0200
      [(0x0200, 0xFF)]) =
    some ⟨0x00, 0x00, 0x00, 0xEF, 0x00, 0x0201, 3⟩ := by
  decide

/-- R354, its example. -/
theorem test_xcn_step :
    stepLeaves (startAt 0x8F 0x00 0x00 0xEF 0x00 0x0200
      [(0x0200, 0x9F)]) =
    some ⟨0xF8, 0x00, 0x00, 0xEF, 0x80, 0x0201, 5⟩ := by
  decide

/-- R355, its example. -/
theorem test_daa_step :
    stepLeaves (startAt 0x9A 0x00 0x00 0xEF 0x00 0x0200
      [(0x0200, 0xDF)]) =
    some ⟨0x00, 0x00, 0x00, 0xEF, 0x03, 0x0201, 3⟩ := by
  decide

/-- R356, its example. -/
theorem test_das_step :
    stepLeaves (startAt 0xFF 0x00 0x00 0xEF 0x00 0x0200
      [(0x0200, 0xBE)]) =
    some ⟨0x99, 0x00, 0x00, 0xEF, 0x80, 0x0201, 3⟩ := by
  decide

/-- R357, its example. -/
theorem test_clrc_step :
    stepLeaves (startAt 0x00 0x00 0x00 0xEF 0xFF 0x0200
      [(0x0200, 0x60)]) =
    some ⟨0x00, 0x00, 0x00, 0xEF, 0xFE, 0x0201, 2⟩ := by
  decide

/-- R358, its example. -/
theorem test_setc_step :
    stepLeaves (startAt 0x00 0x00 0x00 0xEF 0x00 0x0200
      [(0x0200, 0x80)]) =
    some ⟨0x00, 0x00, 0x00, 0xEF, 0x01, 0x0201, 2⟩ := by
  decide

/-- R359, its example. -/
theorem test_clrp_step :
    stepLeaves (startAt 0x00 0x00 0x00 0xEF 0xFF 0x0200
      [(0x0200, 0x20)]) =
    some ⟨0x00, 0x00, 0x00, 0xEF, 0xDF, 0x0201, 2⟩ := by
  decide

/-- R360, its example. -/
theorem test_setp_step :
    stepLeaves (startAt 0x00 0x00 0x00 0xEF 0x00 0x0200
      [(0x0200, 0x40)]) =
    some ⟨0x00, 0x00, 0x00, 0xEF, 0x20, 0x0201, 2⟩ := by
  decide

/-- R361, its example. -/
theorem test_clrv_step :
    stepLeaves (startAt 0x00 0x00 0x00 0xEF 0xFF 0x0200
      [(0x0200, 0xE0)]) =
    some ⟨0x00, 0x00, 0x00, 0xEF, 0xB7, 0x0201, 2⟩ := by
  decide

/-- R362, its example. -/
theorem test_notc_step :
    stepLeaves (startAt 0x00 0x00 0x00 0xEF 0x01 0x0200
      [(0x0200, 0xED)]) =
    some ⟨0x00, 0x00, 0x00, 0xEF, 0x00, 0x0201, 3⟩ := by
  decide

/-- R363, its example. -/
theorem test_ei_step :
    stepLeaves (startAt 0x00 0x00 0x00 0xEF 0x00 0x0200
      [(0x0200, 0xA0)]) =
    some ⟨0x00, 0x00, 0x00, 0xEF, 0x04, 0x0201, 3⟩ := by
  decide

/-- R364, its example. -/
theorem test_di_step :
    stepLeaves (startAt 0x00 0x00 0x00 0xEF 0x04 0x0200
      [(0x0200, 0xC0)]) =
    some ⟨0x00, 0x00, 0x00, 0xEF, 0x00, 0x0201, 3⟩ := by
  decide

/-- R368, its example. -/
theorem test_pushPsw_step :
    stepLeaves (startAt 0x00 0x00 0x00 0x00 0xA3 0x0200
      [(0x0200, 0x0D)]) =
    some ⟨0x00, 0x00, 0x00, 0xFF, 0xA3, 0x0201, 4⟩ := by
  decide

/-- R368, the bytes of its example. -/
theorem test_pushPsw_memory :
    stepLeavesAt (startAt 0x00 0x00 0x00 0x00 0xA3 0x0200
      [(0x0200, 0x0D)]) [0x0100] =
    some [0xA3] := by
  decide

/-- R372, its example. -/
theorem test_popPsw_step :
    stepLeaves (startAt 0x00 0x00 0x00 0xEE 0x00 0x0200
      [(0x01EF, 0xFF), (0x0200, 0x8E)]) =
    some ⟨0x00, 0x00, 0x00, 0xEF, 0xFF, 0x0201, 4⟩ := by
  decide

/-- R373, its example. -/
theorem test_mulAX_step :
    stepLeaves (startAt 0xFF 0xFF 0x00 0xEF 0x00 0x0200
      [(0x0200, 0xCF)]) =
    some ⟨0xFE, 0x01, 0x00, 0xEF, 0x80, 0x0201, 9⟩ := by
  decide

/-- R374, its example. -/
theorem test_divAXY_step :
    stepLeaves (startAt 0x01 0x00 0x10 0xEF 0x00 0x0200
      [(0x0200, 0x9E)]) =
    some ⟨0x00, 0x10, 0x10, 0xEF, 0x08, 0x0201, 12⟩ := by
  decide

/-- R352 and R384: SLEEP halts, and the next step is one idle cycle with PC as it was. -/
theorem test_sleep_then_idle :
    (match Sys2Proof.core.run 2 (startAt 0 0 0 0xEF 0 0x0200 [(0x0200, 0xEF)]) with
      | .next t => some (t.halt, t.pc, t.cycles, t.trace.head?)
      | .fault _ => none
      | .refused _ => none) = some (true, 0x0201, 4, some .idle) := by
  decide

/-- R204 (log entry 5): DBNZ dp whose offset names its own displacement byte fetches it after the write. -/
theorem test_dbnz_fetches_what_it_wrote :
    stepLeaves (startAt 0 0 0 0xEF 0 0x0010 [(0x0010, 0x6E), (0x0011, 0x12), (0x0012, 0x05)]) =
      some ⟨0, 0, 0, 0xEF, 0, 0x0017, 7⟩ := by
  decide

/-- R59 and R57: the bus events of MOV dp, A, in their order. -/
theorem test_movDpA_trace :
    (match step (startAt 0x42 0 0 0xEF 0 0x0200 [(0x0200, 0xC4), (0x0201, 0x10), (0x0010, 0x99)]) with
      | .next t => t.trace.reverse
      | .fault _ => []
      | .refused _ => []) =
      [.fetch 0x0200 0xC4, .fetch 0x0201 0x10, .discard 0x0010 0x99, .write 0x0010 0x42] := by
  decide

/-- R64: the bus may answer any byte at any cycle. -/
theorem test_oracle_answers_the_read :
    stepLeaves { startAt 0 0 0 0xEF 0 0x0200 [(0x0200, 0xE4), (0x0201, 0x10)] with oracle := [(2, 0x80)] } =
      some ⟨0x80, 0, 0, 0xEF, 0x80, 0x0202, 3⟩ := by
  decide

/-- R186, its example, in a core that gives the opcode byte 0x00 to the variant. -/
theorem test_blockMove_example :
    (match stepWith ⟨none, [(0x00, ⟨.x, .y, .a, .increment, 2, 1⟩)]⟩
        (startAt 0x02 0x10 0x20 0xEF 0 0x0200 [(0x0010, 0xAA), (0x0011, 0xBB)]) with
      | .next t => some (t.a, t.x, t.y, t.memAt 0x0020, t.memAt 0x0021, t.cycles)
      | .fault _ => none
      | .refused _ => none) = some (0x00, 0x12, 0x22, 0xAA, 0xBB, 5) := by
  decide

/-- R431: reset with the bytes 00 02 at the vector gives PC = 0x0200. -/
theorem test_reset_vector :
    (State.resetFrom (startAt 1 2 3 4 0xFF 0x1234 [(0xFFFE, 0x00), (0xFFFF, 0x02)])).registers =
      ⟨0x00, 0x00, 0x00, 0xEF, 0x0200, Psw.ofByte 0x02, false⟩ := by
  decide

/-- R32: the byte 0x8C is N, H and I. -/
theorem test_psw_order :
    Psw.ofByte 0x8C =
      { c := false, z := false, i := true, h := true, b := false, p := false, v := false, n := true } := by
  decide

/-- R47: one record byte by byte. -/
theorem test_export_record :
    (startAt 0x12 0x34 0x56 0x78 0x9A 0xBCDE []).exportRecord =
      [0x01, 0xDE, 0xBC, 0x12, 0x34, 0x56, 0x78, 0x9A, 0x00, 0x00, 0x00] := by
  decide

/-- R47 and R414: a record of another version is refused. -/
theorem test_import_refuses_version :
    State.importRecord State.reset [0x02, 0, 0, 0, 0, 0, 0, 0, 0, 0, 0] = .error (.wrongVersion 0x02) := by
  decide

/-- R385: a budget of 3 runs two NOPs and overruns by 1. -/
theorem test_run_overrun :
    (match runBudget Config.parameters 3 (startAt 0 0 0 0xEF 0 0x0200 []) with
      | .next (k, t) => some (k, t.cycles, t.pc)
      | .fault _ => none
      | .refused _ => none) = some (1, 4, 0x0202) := by
  decide

/-- Opcode 0x8F of the table, its bytes as bits of one number, placed and run from reset. -/
theorem test_table_word_runs_from_reset :
    decodeTableWord 24 0x20558F = some (.movDpImm 0x20 0x55) ∧
      stepLeavesAt (State.reset.withFetchWord 24 0x20558F) [0x0020] = some [0x55] := by
  decide

/-! ### Witnesses: for every statement with hypotheses, a concrete case that meets them -/

/-- DecodeOfEncodeIsInstruction. -/
theorem test_witness_wellFormed : (Instr.mov1BitC 0x1FFF 7).WellFormed := by decide

/-- EncodeOfDecodeIsBytes. -/
theorem test_witness_decodes : decode [0xCA, 0xFF, 0xFF, 0x00] = .ok (.mov1BitC 0x1FFF 7, [0x00]) := by decide

/-- EveryByteStringDecodes, its second clause, on the empty list and on a list one byte short. -/
theorem test_witness_decode_error :
    decode [] = .error .noOpcode ∧ decode [0xFA, 0x10] = .error (.missingOperand2 0xFA 0x10) := by decide

/-- A RUNNING state at DBNZ dp whose counted byte is not its own displacement. -/
def dbnzState : State := startAt 0 0 0 0xEF 0 0x0200 [(0x0010, 0x02), (0x0200, 0x6E), (0x0201, 0x10), (0x0202, 0xFD)]

/-- StepRunsDecodedInstruction and StepAccountsForEveryBusCycle. -/
theorem test_witness_step_runs :
    dbnzState.halt = false ∧ dbnzState.oracle = [] ∧
      decode [dbnzState.memAt dbnzState.pc, dbnzState.memAt (dbnzState.pc + 1), dbnzState.memAt (dbnzState.pc + 2)] =
        .ok (.dbnzDp 0x10 0xFD, []) ∧
      dbnzState.dp 0x10 ≠ dbnzState.pc + 2 := by
  decide

/-- HaltedStepIsOneIdleCycle, HaltedCoreIdlesForEver, and the HALTED clause of RunSpendsItsBudget. -/
theorem test_witness_halted : ({ State.reset with halt := true } : State).halt = true ∧ (0 : Int) < 1 := by decide

/-- OtherInstructionsAdvancePcByLength, and OnlyBrkSetsBreakFlag. -/
theorem test_witness_not_control_flow :
    controlFlow (.movAAbs 0x1234) = false ∧ Instr.movAAbs 0x1234 ≠ .popPsw ∧ Instr.movAAbs 0x1234 ≠ .reti := by
  decide

/-- ControlFlowKeepsFlagsAndRegisters, each of its clauses. -/
theorem test_witness_control_flow :
    controlFlow .ret = true ∧ Instr.ret ≠ .brk ∧ Instr.ret ≠ .reti ∧ ∀ r, Instr.ret ≠ .dbnzY r := by
  refine ⟨rfl, by decide, by decide, fun r h => ?_⟩
  cases h

/-- ReadOperateWritesNoMemory. -/
theorem test_witness_read_operate : readOperate (.cmpwAXDp 0x10) = true := by decide

/-- InterruptEnableIsInert: two states that differ in I. -/
theorem test_witness_same_but_i :
    State.SameButI State.reset { State.reset with psw := Psw.ofByte 0x06 } ∧ Instr.ei ≠ .pushPsw ∧ Instr.ei ≠ .brk := by
  refine ⟨rfl, by decide, by decide⟩

/-- OperandLatchesAreDead: two states that differ in every latch. -/
theorem test_witness_same_but_latches :
    State.SameButLatches State.reset { State.reset with latch0 := 0x01, latch1 := 0x02, latch2 := 0x03 } := rfl

/-- StepKeepsStateSound. -/
theorem test_witness_sound_step : State.reset.Sound ∧ ∃ t, step State.reset = .next t :=
  ⟨⟨Memory.wf_reset, rfl⟩, _, rfl⟩

/-- ReturnsUndoEntriesAndPopsUndoPushes. -/
theorem test_witness_no_oracle : State.reset.oracle = [] := rfl

/-- DivideArithmetic: one dividend and divisor at the edge of each of its clauses. -/
theorem test_witness_divide :
    (0x0FFF : Word).toNat / 256 < (0x10 : Byte).toNat ∧
      ((0x10 : Byte).toNat ≤ (0x1000 : Word).toNat / 256 ∧ (0x1000 : Word).toNat / 256 < 2 * (0x10 : Byte).toNat) ∧
      2 * (0x10 : Byte).toNat ≤ (0x2000 : Word).toNat / 256 ∧ (0x00 : Byte) = 0 := by
  decide

/-- DecimalAdjustGivesDecimalSums. -/
theorem test_witness_decimal : (99 : Nat) < 100 ∧ (0 : Nat) < 100 := by decide

/-- A state before power-on's reset, its registers not the reset values. -/
def powerOn : State :=
  { State.reset with a := 0x5A, sp := 0x00, pc := 0x1234, halt := true, latch0 := 0x77, cycles := 0, trace := [] }

/-- ResetStateIsPowerOnThenReset. -/
theorem test_witness_power_on :
    powerOn.cycles = 0 ∧ powerOn.trace = [] ∧ powerOn.oracle = [] ∧ powerOn.mem = [] := by decide

/-- ExportAndImportRoundTrip: both HALT bytes that an import takes. -/
theorem test_witness_halt_byte : ((0x00 : Byte) = 0x00 ∨ (0x00 : Byte) = 0x01) ∧ ((0x01 : Byte) = 0x00 ∨ (0x01 : Byte) = 0x01) :=
  ⟨.inl rfl, .inr rfl⟩

/-- RunSpendsItsBudget: a budget at each side of its two clauses. -/
theorem test_witness_budget : (0 : Int) ≤ 0 ∧ (0 : Int) < 1 := by decide

/-- BlockMoveMovesItsCountAndEnds: a variant and a RUNNING state, with the count 0 and so 256 passes. -/
theorem test_witness_block_move :
    (⟨.x, .y, .a, .decrement, 2, 1⟩ : BlockMove).wf ∧ State.reset.halt = false ∧
      [((0x00 : Byte), (⟨.x, .y, .a, .decrement, 2, 1⟩ : BlockMove))].lookup State.reset.opcodeByte =
        some ⟨.x, .y, .a, .decrement, 2, 1⟩ ∧
      RegIndex.sp ≠ .x ∧ RegIndex.sp ≠ .y ∧ RegIndex.sp ≠ .a := by
  decide

/-- StackAndDirectPageStayInTheirWindows: its clauses about instructions. -/
theorem test_witness_windows :
    Instr.tcall15 ∈ ([.brk, .tcall15] : List Instr) ∧ (∃ addr, Instr.call 0xFFFF = .call addr) ∧
      directPageOnly (.movDpXA 0xFF) = true ∧ directPageOnly (.movAIndIdx 0xFF) = false := by
  refine ⟨by decide, ⟨_, rfl⟩, rfl, rfl⟩

/-- CycleCounterOfAnyWidthShowsStepCost: each clause, the counter at the wrap. -/
theorem test_witness_counter :
    Config.parameters.cycleWidth = none ∧ (⟨some 8, []⟩ : Parameters).cycleWidth = some 8 ∧
      cyclesBetween State.reset State.reset.idle < 2 ^ 8 := by
  decide

/-- R42 at a width of 8 bits (log entry 7): the counter starts again at 0, and the delta is the step's cost. -/
theorem test_counter_wraps :
    ({ State.reset with cycles := 255 } : State).idle.cycleCounter ⟨some 8, []⟩ = 0 ∧
      counterDelta ⟨some 8, []⟩ { State.reset with cycles := 255 }
        ({ State.reset with cycles := 255 } : State).idle = 1 := by
  decide

end Sys2Proof.Tests
end

/-! PROOFS. The scope of the core (00_scope.md): what every instruction spends, what the reader of a cycle counter sees
of it, and the state at reset. -/

namespace Sys2Proof.Machine

/-! ### Cycles spent between two states

`Spends s ks t` is an account of time alone: which registers or bytes changed on the way does not enter into it. It
composes, so the sequence of an instruction is put together from those of the operations its meaning names. -/

/-- From `s` to `t` one cycle of each of the kinds `ks` passed, in this order, and the trace and the counter say so (R7). -/
def Spends (s : State) (ks : List CycleKind) (t : State) : Prop :=
  ∃ events : List BusEvent, t.trace = events.reverse ++ s.trace ∧ t.cycles = s.cycles + events.length ∧
    events.map BusEvent.kind = ks

theorem Spends.refl (s : State) : Spends s [] s := ⟨[], rfl, rfl, rfl⟩

/-- Cycles spent one after the other. -/
theorem Spends.trans {s t u : State} {ks ls : List CycleKind} (h : Spends s ks t) (g : Spends t ls u) :
    Spends s (ks ++ ls) u := by
  obtain ⟨first, htrace, hcycles, rfl⟩ := h
  obtain ⟨rest, gtrace, gcycles, rfl⟩ := g
  refine ⟨first ++ rest, ?_, ?_, List.map_append⟩
  · rw [gtrace, htrace, List.reverse_append, List.append_assoc]
  · rw [gcycles, hcycles, List.length_append, Nat.add_assoc]

/-- Writing registers, flags and HALT spends nothing. -/
theorem Spends.registers {s t : State} {ks : List CycleKind} (h : Spends s ks t) {a x y sp : Byte} {pc : Word}
    {psw : Psw} {halt : Bool} :
    Spends s ks { t with a := a, x := x, y := y, sp := sp, pc := pc, psw := psw, halt := halt } := h

/-- The cost is the number of the cycles in the sequence. -/
theorem Spends.cycles_eq {s t : State} {ks : List CycleKind} (h : Spends s ks t) :
    t.cycles = s.cycles + ks.length := by
  obtain ⟨events, -, hcycles, rfl⟩ := h
  rw [hcycles, List.length_map]

/-- An operation that spends one cycle. -/
theorem spends_of_event {s t : State} (e : BusEvent) (htrace : t.trace = e :: s.trace)
    (hcycles : t.cycles = s.cycles + 1) : Spends s [e.kind] t :=
  ⟨[e], htrace, hcycles, rfl⟩

section Operations

variable (s : State)

/-! ### The cycle primitives (R7), and the stack's one access (R29) -/

theorem spends_fetchOpcode (op : Byte) : Spends s [.f] (s.fetchOpcode op) := spends_of_event (.fetch s.pc op) rfl rfl
theorem spends_fetchOperand1 (v : Byte) : Spends s [.f] (s.fetchOperand1 v) := spends_of_event (.fetch s.pc v) rfl rfl
theorem spends_fetchOperand2 (v : Byte) : Spends s [.f] (s.fetchOperand2 v) := spends_of_event (.fetch s.pc v) rfl rfl
theorem spends_read (a : Word) : Spends s [.r] (s.read a) := spends_of_event (.read a (s.bus a)) rfl rfl
theorem spends_discardRead (a : Word) : Spends s [.d] (s.discardRead a) :=
  spends_of_event (.discard a (s.bus a)) rfl rfl
theorem spends_write (a : Word) (v : Byte) : Spends s [.w] (s.write a v) := spends_of_event (.write a v) rfl rfl
theorem spends_idle : Spends s [.i] s.idle := spends_of_event .idle rfl rfl

theorem spends_idles (n : Nat) : Spends s (List.replicate n .i) (s.idles n) :=
  ⟨List.replicate n .idle, by simp, by simp, List.map_replicate⟩

theorem spends_push (v : Byte) : Spends s [.w] (s.push v) := (spends_write s s.stackAddr v).registers

theorem spends_pop : Spends s [.r] s.pop := (Spends.refl s).registers.trans (spends_read s.raiseSp _)

/-! ### Runs of fetches, words, the trap and the return from it -/

theorem spends_fetch2 (op b1 : Byte) : Spends s [.f, .f] (s.fetch2 op b1) :=
  (spends_fetchOpcode s op).trans (spends_fetchOperand1 _ b1)

theorem spends_fetch3 (op b1 b2 : Byte) : Spends s [.f, .f, .f] (s.fetch3 op b1 b2) :=
  (spends_fetch2 s op b1).trans (spends_fetchOperand2 _ b2)

theorem spends_fetchWord (op : Byte) (w : Word) : Spends s [.f, .f, .f] (s.fetchWord op w) :=
  spends_fetch3 s op (wordLow w) (wordHigh w)

theorem spends_fetchBit (op : Byte) (m : Word) (b : BitVec 3) : Spends s [.f, .f, .f] (s.fetchBit op m b) :=
  spends_fetchWord s op (bitOperand m b)

theorem spends_readWord (a : Word) : Spends s [.r, .r] (s.readWord a) :=
  (spends_read s a).trans (spends_read _ (a + 1))

theorem spends_readPointer (o : Byte) : Spends s [.r, .r] (s.readPointer o) :=
  (spends_read s (s.dp o)).trans (spends_read _ (s.dp (o + 1)))

theorem spends_readSpacedWord (o : Byte) : Spends s [.r, .i, .r] (s.readSpacedWord o) :=
  ((spends_read s (s.dp o)).trans (spends_idle _)).trans (spends_read _ (s.dp (o + 1)))

theorem spends_pushWord (w : Word) : Spends s [.w, .w] (s.pushWord w) :=
  (spends_push s (wordHigh w)).trans (spends_push _ (wordLow w))

theorem spends_popWord : Spends s [.r, .r] s.popWord := (spends_pop s).trans (spends_pop _)

theorem spends_pushRegister (v : Byte) : Spends s [.i, .i, .w] (s.pushRegister v) :=
  (spends_idles s 2).trans (spends_push _ v)

theorem spends_popRegister : Spends s [.i, .i, .r] s.popRegister := (spends_idles s 2).trans (spends_pop _)

theorem spends_takeBreak : Spends s [.r, .r, .i, .i, .w, .w, .w] s.takeBreak :=
  ((((spends_readWord s _).trans (spends_idles _ 2)).trans (spends_pushWord _ _)).trans (spends_push _ _)).registers

theorem spends_returnFromBreak : Spends s [.r, .r, .r, .i, .i] s.returnFromBreak :=
  (((spends_pop s).trans (spends_popWord _)).trans (spends_idles _ 2)).registers

theorem spends_callTable (n : Nat) : Spends s [.r, .r, .i, .i, .i, .w, .w] (s.callTable n) :=
  (((spends_readWord s _).trans (spends_idles _ 3)).trans (spends_pushWord _ _)).registers

theorem spends_bumpWord (o : Byte) (delta : Word) : Spends s [.r, .w, .r, .w] (s.bumpWord o delta) :=
  ((((spends_read s _).trans (spends_write _ _ _)).trans (spends_read _ _)).trans (spends_write _ _ _)).registers

/-! ### Resolvers (R122 to R129): the internal cycle of an index, the reads of a pointer -/

theorem spends_directPage (o : Byte) : Spends s [] (s.directPage o).after := .refl s
theorem spends_directPageX (o : Byte) : Spends s [.i] (s.directPageX o).after := spends_idle s
theorem spends_directPageY (o : Byte) : Spends s [.i] (s.directPageY o).after := spends_idle s
theorem spends_absolute (a : Word) : Spends s [] (s.absolute a).after := .refl s
theorem spends_absoluteX (a : Word) : Spends s [.i] (s.absoluteX a).after := spends_idle s
theorem spends_absoluteY (a : Word) : Spends s [.i] (s.absoluteY a).after := spends_idle s
theorem spends_absoluteBit (m : Word) : Spends s [] (s.absoluteBit m).after := .refl s
theorem spends_indirectX : Spends s [.i] s.indirectX.after := spends_idle s

theorem spends_indexedIndirect (o : Byte) : Spends s [.i, .r, .r] (s.indexedIndirect o).after :=
  (spends_idle s).trans (spends_readPointer _ (o + s.x))

theorem spends_indirectIndexed (o : Byte) : Spends s [.i, .r, .r] (s.indirectIndexed o).after :=
  (spends_idle s).trans (spends_readPointer _ o)

theorem spends_indirectIndexedStore (o : Byte) : Spends s [.r, .r, .i] (s.indirectIndexedStore o).after :=
  (spends_readPointer s o).trans (spends_idle _)

theorem spends_indirectYSource : Spends s [.i, .r] s.indirectYSource.after :=
  (spends_idle s).trans (spends_read _ (s.dp s.y))

/-- The source byte is read before the second operand byte is fetched (R75). -/
theorem spends_directPageSource (op src dst : Byte) :
    Spends s [.f, .f, .r, .f] (s.directPageSource op src dst).after :=
  ((spends_fetch2 s op src).trans (spends_read _ _)).trans (spends_fetchOperand2 _ dst)

theorem spends_immediateSource (op imm dst : Byte) : Spends s [.f, .f, .f] (s.immediateSource op imm dst).after :=
  spends_fetch3 s op imm dst

/-! ### What the families do at a resolved address -/

variable (r : Resolved) (src : Sourced)

theorem Resolved.spends_read : Spends r.after [.r] r.read := Machine.spends_read r.after r.addr

theorem Resolved.spends_store (v : Byte) : Spends r.after [.d, .w] (r.store v) :=
  (spends_discardRead r.after r.addr).trans (spends_write _ r.addr v)

theorem Resolved.spends_rewrite (f : Byte → Byte) : Spends r.after [.r, .w] (r.rewrite f) :=
  r.spends_read.trans (spends_write _ r.addr (f r.value))

theorem Resolved.spends_modify (f : Byte → Psw → Alu8) : Spends r.after [.r, .w] (r.modify f) :=
  (r.spends_read.trans (spends_write _ r.addr _)).registers

theorem Sourced.spends_combineAt (f : Byte → Byte → Psw → Alu8) (dest : Word) :
    Spends src.after [.r, .w] (src.combineAt f dest) :=
  Resolved.spends_modify ⟨dest, src.after⟩ _

/-- An internal cycle stands in the place of the write (R335). -/
theorem Sourced.spends_compareAt (dest : Word) : Spends src.after [.r, .i] (src.compareAt dest) :=
  (Spends.registers (Machine.spends_read src.after dest)).trans (spends_idle _)

/-- A branch that is taken spends two internal cycles, one that is not spends none (R130). -/
theorem spends_branchIf (taken : Bool) (d : Byte) :
    Spends s (if taken then [.i, .i] else []) (s.branchIf taken d) := by
  cases taken with
  | true => exact (spends_idles s 2).registers
  | false => exact .refl s

end Operations

/-! ### Every instruction follows its row of the table -/

/-- The instruction completes and spends its row's sequence, with the two cycles of a taken branch after it if it is a
conditional branch. -/
def FollowsSequence (i : Instr) (s : State) : Prop :=
  ∃ t, exec i s = .next t ∧
    (Spends s (cycleSequence i) t ∨ conditionalBranch i = true ∧ Spends s (cycleSequence i ++ [.i, .i]) t)

/-- An instruction whose cycles do not depend on data. -/
theorem FollowsSequence.fixed {i : Instr} {s t : State} (hexec : exec i s = .next t)
    (h : Spends s (cycleSequence i) t) : FollowsSequence i s :=
  ⟨t, hexec, .inl h⟩

/-- A conditional branch: its row's sequence leads to the point where it is taken or not. -/
theorem FollowsSequence.branch {i : Instr} {s u : State} {taken : Bool} {d : Byte}
    (hcond : conditionalBranch i = true) (hexec : exec i s = .next (u.branchIf taken d))
    (h : Spends s (cycleSequence i) u) : FollowsSequence i s := by
  refine ⟨_, hexec, ?_⟩
  cases taken with
  | true => exact .inr ⟨hcond, h.trans (spends_branchIf u true d)⟩
  | false => exact .inl h

/-- One case for each way of addressing and each thing done at the address; within a case the instructions differ in
their opcode byte, in the ALU primitive and in the registers, none of which spends a cycle. -/
theorem exec_followsSequence (i : Instr) (s : State) : FollowsSequence i s := by
  cases i with
  -- A byte is given or read, and goes into a register or the flags.
  | movAImm | movXImm | movYImm | orAImm | andAImm | eorAImm | cmpAImm | adcAImm | sbcAImm | cmpXImm | cmpYImm =>
    exact .fixed rfl (spends_fetch2 s _ _ |>.registers)
  | movADp | movXDp | movYDp | orADp | andADp | eorADp | cmpADp | adcADp | sbcADp | cmpXDp | cmpYDp =>
    exact .fixed rfl (spends_fetch2 s _ _ |>.trans (spends_directPage _ _) |>.trans (Resolved.spends_read _)
      |>.registers)
  | movADpX | movYDpX | orADpX | andADpX | eorADpX | cmpADpX | adcADpX | sbcADpX =>
    exact .fixed rfl (spends_fetch2 s _ _ |>.trans (spends_directPageX _ _) |>.trans (Resolved.spends_read _)
      |>.registers)
  | movXDpY =>
    exact .fixed rfl (spends_fetch2 s _ _ |>.trans (spends_directPageY _ _) |>.trans (Resolved.spends_read _)
      |>.registers)
  | movAAbs | movXAbs | movYAbs | orAAbs | andAAbs | eorAAbs | cmpAAbs | adcAAbs | sbcAAbs | cmpXAbs | cmpYAbs =>
    exact .fixed rfl (spends_fetchWord s _ _ |>.trans (spends_absolute _ _) |>.trans (Resolved.spends_read _)
      |>.registers)
  | movAAbsX | orAAbsX | andAAbsX | eorAAbsX | cmpAAbsX | adcAAbsX | sbcAAbsX =>
    exact .fixed rfl (spends_fetchWord s _ _ |>.trans (spends_absoluteX _ _) |>.trans (Resolved.spends_read _)
      |>.registers)
  | movAAbsY | orAAbsY | andAAbsY | eorAAbsY | cmpAAbsY | adcAAbsY | sbcAAbsY =>
    exact .fixed rfl (spends_fetchWord s _ _ |>.trans (spends_absoluteY _ _) |>.trans (Resolved.spends_read _)
      |>.registers)
  | movAIdxInd | orAIdxInd | andAIdxInd | eorAIdxInd | cmpAIdxInd | adcAIdxInd | sbcAIdxInd =>
    exact .fixed rfl (spends_fetch2 s _ _ |>.trans (spends_indexedIndirect _ _) |>.trans (Resolved.spends_read _)
      |>.registers)
  | movAIndIdx | orAIndIdx | andAIndIdx | eorAIndIdx | cmpAIndIdx | adcAIndIdx | sbcAIndIdx =>
    exact .fixed rfl (spends_fetch2 s _ _ |>.trans (spends_indirectIndexed _ _) |>.trans (Resolved.spends_read _)
      |>.registers)
  | movAIndX | orAIndX | andAIndX | eorAIndX | cmpAIndX | adcAIndX | sbcAIndX =>
    exact .fixed rfl (spends_fetchOpcode s _ |>.trans (spends_indirectX _) |>.trans (Resolved.spends_read _)
      |>.registers)
  | movAIndXInc =>
    exact .fixed rfl (spends_fetchOpcode s _ |>.trans (spends_indirectX _) |>.trans (Resolved.spends_read _)
      |>.trans (spends_idle _) |>.registers)
  -- A register or an immediate is stored.
  | movDpA | movDpX | movDpY =>
    exact .fixed rfl (spends_fetch2 s _ _ |>.trans (spends_directPage _ _) |>.trans (Resolved.spends_store _ _))
  | movDpXA | movDpXY =>
    exact .fixed rfl (spends_fetch2 s _ _ |>.trans (spends_directPageX _ _) |>.trans (Resolved.spends_store _ _))
  | movDpYX =>
    exact .fixed rfl (spends_fetch2 s _ _ |>.trans (spends_directPageY _ _) |>.trans (Resolved.spends_store _ _))
  | movAbsA | movAbsX | movAbsY =>
    exact .fixed rfl (spends_fetchWord s _ _ |>.trans (spends_absolute _ _) |>.trans (Resolved.spends_store _ _))
  | movAbsXA =>
    exact .fixed rfl (spends_fetchWord s _ _ |>.trans (spends_absoluteX _ _) |>.trans (Resolved.spends_store _ _))
  | movAbsYA =>
    exact .fixed rfl (spends_fetchWord s _ _ |>.trans (spends_absoluteY _ _) |>.trans (Resolved.spends_store _ _))
  | movIdxIndA =>
    exact .fixed rfl (spends_fetch2 s _ _ |>.trans (spends_indexedIndirect _ _)
      |>.trans (Resolved.spends_store _ _))
  | movIndIdxA =>
    exact .fixed rfl (spends_fetch2 s _ _ |>.trans (spends_indirectIndexedStore _ _)
      |>.trans (Resolved.spends_store _ _))
  | movIndXA =>
    exact .fixed rfl (spends_fetchOpcode s _ |>.trans (spends_indirectX _) |>.trans (Resolved.spends_store _ _))
  | movDpImm =>
    exact .fixed rfl (spends_fetch3 s _ _ _ |>.trans (spends_directPage _ _) |>.trans (Resolved.spends_store _ _))
  | movIndXIncA =>
    exact .fixed rfl (spends_fetchOpcode s _ |>.trans (spends_idles _ 2) |>.trans (spends_write _ _ _) |>.registers)
  | movDpDp => exact .fixed rfl (spends_directPageSource s _ _ _ |>.trans (spends_write _ _ _))
  -- Words in the direct page. The pair AX is written, and then the flags: neither spends a cycle.
  | movwAXDp | addwAXDp | subwAXDp =>
    exact .fixed rfl (spends_fetch2 s _ _ |>.trans (spends_readSpacedWord _ _) |>.registers |>.registers)
  | cmpwAXDp => exact .fixed rfl (spends_fetch2 s _ _ |>.trans (spends_readPointer _ _) |>.registers)
  | movwDpAX =>
    exact .fixed rfl (spends_fetch2 s _ _ |>.trans (spends_discardRead _ _) |>.trans (spends_write _ _ _)
      |>.trans (spends_write _ _ _))
  | incwDp | decwDp => exact .fixed rfl (spends_fetch2 s _ _ |>.trans (spends_bumpWord _ _ _))
  -- One bit of an absolute address.
  | mov1CBit | and1CBit | and1CNotBit =>
    exact .fixed rfl (spends_fetchBit s _ _ _ |>.trans (spends_absoluteBit _ _) |>.trans (Resolved.spends_read _)
      |>.registers)
  | or1CBit | or1CNotBit | eor1CBit =>
    exact .fixed rfl (spends_fetchBit s _ _ _ |>.trans (spends_absoluteBit _ _) |>.trans (Resolved.spends_read _)
      |>.trans (spends_idle _) |>.registers)
  | mov1BitC =>
    exact .fixed rfl (spends_fetchBit s _ _ _ |>.trans (spends_absoluteBit _ _) |>.trans (Resolved.spends_read _)
      |>.trans (spends_idle _) |>.trans (spends_write _ _ _))
  | not1Bit =>
    exact .fixed rfl (spends_fetchBit s _ _ _ |>.trans (spends_absoluteBit _ _)
      |>.trans (Resolved.spends_rewrite _ _))
  -- A byte is read, changed and written.
  | aslDp | rolDp | lsrDp | rorDp | decDp | incDp =>
    exact .fixed rfl (spends_fetch2 s _ _ |>.trans (spends_directPage _ _) |>.trans (Resolved.spends_modify _ _))
  | aslDpX | rolDpX | lsrDpX | rorDpX | decDpX | incDpX =>
    exact .fixed rfl (spends_fetch2 s _ _ |>.trans (spends_directPageX _ _) |>.trans (Resolved.spends_modify _ _))
  | aslAbs | rolAbs | lsrAbs | rorAbs | decAbs | incAbs =>
    exact .fixed rfl (spends_fetchWord s _ _ |>.trans (spends_absolute _ _) |>.trans (Resolved.spends_modify _ _))
  | set1b0 | set1b1 | set1b2 | set1b3 | set1b4 | set1b5 | set1b6 | set1b7
  | clr1b0 | clr1b1 | clr1b2 | clr1b3 | clr1b4 | clr1b5 | clr1b6 | clr1b7 =>
    exact .fixed rfl (spends_fetch2 s _ _ |>.trans (spends_directPage _ _) |>.trans (Resolved.spends_rewrite _ _))
  | tset1Abs | tclr1Abs =>
    exact .fixed rfl (spends_fetchWord s _ _ |>.trans (spends_absolute _ _) |>.trans (Resolved.spends_read _)
      |>.trans (spends_discardRead _ _) |>.trans (spends_write _ _ _) |>.registers)
  | orDpDp | andDpDp | eorDpDp | adcDpDp | sbcDpDp =>
    exact .fixed rfl (spends_directPageSource s _ _ _ |>.trans (Sourced.spends_combineAt _ _ _))
  | orDpImm | andDpImm | eorDpImm | adcDpImm | sbcDpImm =>
    exact .fixed rfl (spends_immediateSource s _ _ _ |>.trans (Sourced.spends_combineAt _ _ _))
  | orIndXIndY | andIndXIndY | eorIndXIndY | adcIndXIndY | sbcIndXIndY =>
    exact .fixed rfl (spends_fetchOpcode s _ |>.trans (spends_indirectYSource _)
      |>.trans (Sourced.spends_combineAt _ _ _))
  | cmpDpDp => exact .fixed rfl (spends_directPageSource s _ _ _ |>.trans (Sourced.spends_compareAt _ _))
  | cmpDpImm => exact .fixed rfl (spends_immediateSource s _ _ _ |>.trans (Sourced.spends_compareAt _ _))
  | cmpIndXIndY =>
    exact .fixed rfl (spends_fetchOpcode s _ |>.trans (spends_indirectYSource _)
      |>.trans (Sourced.spends_compareAt _ _))
  -- Registers and flags alone.
  | nop => exact .fixed rfl (spends_fetchOpcode s _ |>.trans (spends_idle _))
  | movAX | movAY | movXA | movYA | movXSP | movSPX | clrc | setc | clrp | setp | clrv
  | aslA | rolA | lsrA | rorA | decA | incA | decX | incX | decY | incY =>
    exact .fixed rfl (spends_fetchOpcode s _ |>.trans (spends_idle _) |>.registers)
  | sleep | stop | daa | das | notc | ei | di =>
    exact .fixed rfl (spends_fetchOpcode s _ |>.trans (spends_idles _ 2) |>.registers)
  | xcn => exact .fixed rfl (spends_fetchOpcode s _ |>.trans (spends_idles _ 4) |>.registers)
  | mulAX => exact .fixed rfl (spends_fetchOpcode s _ |>.trans (spends_idles _ 8) |>.registers |>.registers)
  | divAXY => exact .fixed rfl (spends_fetchOpcode s _ |>.trans (spends_idles _ 11) |>.registers)
  -- The stack.
  | pushA | pushX | pushY | pushPsw => exact .fixed rfl (spends_fetchOpcode s _ |>.trans (spends_pushRegister _ _))
  | popA | popX | popY | popPsw =>
    exact .fixed rfl (spends_fetchOpcode s _ |>.trans (spends_popRegister _) |>.registers)
  -- Jumps, calls, the trap and the returns.
  | bra => exact .fixed rfl (spends_fetch2 s _ _ |>.trans (spends_branchIf _ true _))
  | jmpAbs => exact .fixed rfl (spends_fetchWord s _ _ |>.registers)
  | jmpAbsXInd =>
    exact .fixed rfl (spends_fetchWord s _ _ |>.trans (spends_idle _) |>.trans (spends_readWord _ _) |>.registers)
  | call =>
    exact .fixed rfl (spends_fetchWord s _ _ |>.trans (spends_idles _ 3) |>.trans (spends_pushWord _ _)
      |>.registers)
  | pcall =>
    exact .fixed rfl (spends_fetch2 s _ _ |>.trans (spends_idles _ 2) |>.trans (spends_pushWord _ _) |>.registers)
  | tcall0 | tcall1 | tcall2 | tcall3 | tcall4 | tcall5 | tcall6 | tcall7
  | tcall8 | tcall9 | tcall10 | tcall11 | tcall12 | tcall13 | tcall14 | tcall15 =>
    exact .fixed rfl (spends_fetchOpcode s _ |>.trans (spends_callTable _ _))
  | brk => exact .fixed rfl (spends_fetchOpcode s _ |>.trans (spends_takeBreak _))
  | ret =>
    exact .fixed rfl (spends_fetchOpcode s _ |>.trans (spends_popWord _) |>.trans (spends_idles _ 2) |>.registers)
  | reti => exact .fixed rfl (spends_fetchOpcode s _ |>.trans (spends_returnFromBreak _))
  -- Conditional branches, up to the point where they are taken or not.
  | bpl | bmi | bvc | bvs | bcc | bcs | bne | beq => exact .branch rfl rfl (spends_fetch2 s _ _)
  | bbs0 | bbs1 | bbs2 | bbs3 | bbs4 | bbs5 | bbs6 | bbs7
  | bbc0 | bbc1 | bbc2 | bbc3 | bbc4 | bbc5 | bbc6 | bbc7 | cbneDp =>
    exact .branch rfl rfl (spends_directPageSource s _ _ _ |>.trans (spends_idle _))
  | cbneDpX =>
    exact .branch rfl rfl (spends_fetch2 s _ _ |>.trans (spends_directPageX _ _)
      |>.trans (Resolved.spends_read _) |>.trans (spends_fetchOperand2 _ _) |>.trans (spends_idle _))
  | dbnzDp =>
    exact .branch rfl rfl (spends_fetch2 s _ _ |>.trans (spends_directPage _ _) |>.trans (Resolved.spends_read _)
      |>.trans (spends_write _ _ _) |>.trans (spends_fetchOperand2 _ _))
  | dbnzY =>
    exact .branch rfl rfl (spends_fetch2 s _ _ |>.trans (spends_idle _) |>.registers |>.trans (spends_idle _))

/-- Settles O9: the two forms of `FollowsSequence` give the events. -/
theorem everyInstructionFollowsItsCycleSequence : Obligations.EveryInstructionFollowsItsCycleSequence := by
  intro i s
  obtain ⟨t, hexec, ⟨events, htrace, hcycles, hkinds⟩ | ⟨hcond, events, htrace, hcycles, hkinds⟩⟩ :=
    exec_followsSequence i s
  · exact ⟨t, events, hexec, htrace, hcycles, .inl hkinds⟩
  · exact ⟨t, events, hexec, htrace, hcycles, .inr ⟨hcond, hkinds⟩⟩

/-! ### The cost of a step -/

/-- Every sequence begins with the fetch of the opcode byte (R381). -/
theorem cycleSequence_eq_cons (i : Instr) : ∃ rest, cycleSequence i = .f :: rest := by
  cases i <;> exact ⟨_, rfl⟩

/-- Every instruction completes, at least one cycle later. -/
theorem exec_completes (i : Instr) (s : State) : ∃ t, exec i s = .next t ∧ s.cycles < t.cycles := by
  obtain ⟨rest, hrow⟩ := cycleSequence_eq_cons i
  obtain ⟨t, hexec, h | ⟨-, h⟩⟩ := exec_followsSequence i s
  all_goals
    refine ⟨t, hexec, ?_⟩
    rw [h.cycles_eq, hrow]
    simp

/-- The passes of a block move only add cycles, however many there are. -/
theorem State.cycles_le_blockLoop (bm : BlockMove) (fuel : Nat) (s : State) :
    s.cycles ≤ (State.blockLoop bm fuel s).cycles := by
  induction fuel generalizing s with
  | zero => exact Nat.le_refl _
  | succ fuel ih =>
    have hpass : s.cycles ≤ (s.blockPass bm).cycles := by rw [State.blockPass_cycles]; omega
    rw [State.blockLoop_succ]
    split
    · exact hpass
    · exact hpass.trans (ih _)

/-- A block move spends at least its opcode fetch (R186). -/
theorem State.cycles_lt_blockMove (bm : BlockMove) (s : State) : s.cycles < (s.blockMove bm).cycles := by
  have hloop := State.cycles_le_blockLoop bm 256 ((s.fetchOpcode (s.bus s.pc)).idles (bm.base - 1))
  rw [State.idles_cycles, State.fetchOpcode_cycles] at hloop
  rw [State.blockMove]
  omega

/-- Whatever its parameters and its state, a core makes its step, and the step costs at least one cycle: the idle cycle
of a HALTED core, a block move or an instruction. -/
theorem stepWith_completes (p : Parameters) (s : State) : ∃ t, stepWith p s = .next t ∧ s.cycles < t.cycles := by
  cases hhalt : s.halt with
  | true => exact ⟨_, stepWith_of_halted p s hhalt, Nat.lt_succ_self _⟩
  | false =>
    cases hslot : p.blkmovSlots.lookup s.opcodeByte with
    | some bm => exact ⟨_, stepWith_of_slot p s hhalt hslot, State.cycles_lt_blockMove bm s⟩
    | none =>
      rw [stepWith_of_no_slot p s hhalt hslot]
      exact exec_completes _ s

/-! ### The counter as its reader sees it -/

section Counter

variable {p : Parameters} {s t : State}

/-- The delta taken from an unbounded counter is the reported cost. -/
theorem counterDelta_of_none (h : p.cycleWidth = none) : counterDelta p s t = cyclesBetween s t := by
  simp [counterDelta, h, State.cycleCounter_of_none, cyclesBetween]

/-- An unbounded counter grows by the reported cost. -/
theorem cycleCounter_eq_add_of_none (h : p.cycleWidth = none) (hle : s.cycles ≤ t.cycles) :
    t.cycleCounter p = s.cycleCounter p + cyclesBetween s t := by
  rw [State.cycleCounter_of_none t h, State.cycleCounter_of_none s h, cyclesBetween, Nat.add_sub_cancel' hle]

/-- A counter of `w` bits grows by the reported cost modulo 2 to the `w` (log entry 7). -/
theorem cycleCounter_eq_add_mod_of_some {w : Nat} (h : p.cycleWidth = some w) (hle : s.cycles ≤ t.cycles) :
    t.cycleCounter p = (s.cycleCounter p + cyclesBetween s t) % 2 ^ w := by
  rw [State.cycleCounter_of_some t h, State.cycleCounter_of_some s h, Nat.mod_add_mod, cyclesBetween,
    Nat.add_sub_cancel' hle]

end Counter

/-- Settles O58: a step completes and costs a cycle or more, and then each kind of counter shows the cost. -/
theorem cycleCounterOfAnyWidthShowsStepCost : Obligations.CycleCounterOfAnyWidthShowsStepCost := by
  intro p s
  obtain ⟨t, hstep, hlt⟩ := stepWith_completes p s
  have hle : s.cycles ≤ t.cycles := hlt.le
  exact ⟨t, hstep, Nat.sub_pos_of_lt hlt, hle,
    fun hnone => ⟨cycleCounter_eq_add_of_none hnone hle, counterDelta_of_none hnone⟩,
    fun _ hsome => ⟨cycleCounter_eq_add_mod_of_some hsome hle, counterDelta_eq_cyclesBetween s hsome hle⟩⟩

/-! ### The state at reset -/

/-- Settles O18: memory lists nothing, and the trace holds the two reads of the reset vector. -/
theorem resetStateIsSound : Obligations.ResetStateIsSound :=
  ⟨Memory.wf_reset, rfl⟩

end Sys2Proof.Machine

/-! PROOFS. The CPU state (10_state.md): what no instruction looks at, what every step keeps, how PC, HALT and B move,
the windows of the stack and of the direct page, and the record of the host. -/

namespace Sys2Proof.Machine

/-! ### Two states in lockstep (R36, R43)

The I flag and the operand latches are two answers to one question: what may differ between two states without an
instruction noticing? Each operation keeps two such states together, and gives the same bytes and addresses in both. -/

/-- What two states may differ in without an instruction noticing. -/
inductive Unseen where
  | flagI | latches

/-- Two status words that are the same but for what is unseen. -/
inductive Psw.SameBut : Unseen → Psw → Psw → Prop where
  | flagI (p : Psw) (b : Bool) : SameBut .flagI p { p with i := b }
  | latches (p : Psw) : SameBut .latches p p

/-- Two states that are the same but for what is unseen. -/
inductive State.SameBut : Unseen → State → State → Prop where
  | flagI (s : State) (b : Bool) : SameBut .flagI s { s with psw := { s.psw with i := b } }
  | latches (s : State) (l0 l1 l2 : Byte) :
      SameBut .latches s { s with latch0 := l0, latch1 := l1, latch2 := l2 }

theorem State.sameBut_flagI_iff {s s' : State} : SameBut .flagI s s' ↔ s.SameButI s' := by
  constructor
  · rintro ⟨⟩
    rfl
  · intro h
    rw [h]
    exact .flagI s _

theorem State.sameBut_latches_iff {s s' : State} : SameBut .latches s s' ↔ s.SameButLatches s' := by
  constructor
  · rintro ⟨⟩
    rfl
  · intro h
    rw [h]
    exact .latches s _ _ _

section Lockstep

variable {k : Unseen}

/-! #### The status word: no flag but I differs, and no primitive looks at I -/

section StatusWord

variable {p p' : Psw}

theorem Psw.SameBut.refl (p : Psw) : SameBut k p p := by
  cases k with
  | flagI => exact .flagI p p.i
  | latches => exact .latches p

variable (h : Psw.SameBut k p p')

include h

theorem Psw.SameBut.c_eq : p'.c = p.c := by cases h <;> rfl
theorem Psw.SameBut.z_eq : p'.z = p.z := by cases h <;> rfl
theorem Psw.SameBut.v_eq : p'.v = p.v := by cases h <;> rfl
theorem Psw.SameBut.n_eq : p'.n = p.n := by cases h <;> rfl

theorem Psw.SameBut.withC {b b' : Bool} (hb : b' = b) : SameBut k { p with c := b } { p' with c := b' } := by
  subst hb; cases h <;> constructor
theorem Psw.SameBut.withP (b : Bool) : SameBut k { p with p := b } { p' with p := b } := by
  cases h <;> constructor
theorem Psw.SameBut.withI (b : Bool) : SameBut k { p with i := b } { p' with i := b } := by
  cases h <;> constructor
theorem Psw.SameBut.withVH (v h : Bool) : SameBut k { p with v := v, h := h } { p' with v := v, h := h } := by
  cases ‹Psw.SameBut k p p'› <;> constructor
theorem Psw.SameBut.setNZ8 {v v' : Byte} (hv : v' = v) : SameBut k (p.setNZ8 v) (p'.setNZ8 v') := by
  subst hv; cases h <;> constructor
theorem Psw.SameBut.setNZ16 {w w' : Word} (hw : w' = w) : SameBut k (p.setNZ16 w) (p'.setNZ16 w') := by
  subst hw; cases h <;> constructor
theorem Psw.SameBut.aluCmp {a a' b b' : Byte} (ha : a' = a) (hb : b' = b) :
    SameBut k (aluCmp a b p) (aluCmp a' b' p') := by
  subst ha hb; exact (h.setNZ8 rfl).withC rfl
theorem Psw.SameBut.aluCmpw {a a' b b' : Word} (ha : a' = a) (hb : b' = b) :
    SameBut k (aluCmpw a b p) (aluCmpw a' b' p') := by
  subst ha hb; exact (h.setNZ16 rfl).withC rfl

/-- The two carries of a 16-bit sum are its own, so that only its flags show the incoming status word. -/
theorem Psw.SameBut.aluAddw {a a' b b' : Word} (ha : a' = a) (hb : b' = b) :
    (aluAddw a' b' p').value = (aluAddw a b p).value ∧ SameBut k (aluAddw a b p).psw (aluAddw a' b' p').psw := by
  subst ha hb; cases h <;> exact ⟨rfl, by constructor⟩
theorem Psw.SameBut.aluSubw {a a' b b' : Word} (ha : a' = a) (hb : b' = b) :
    (aluSubw a' b' p').value = (aluSubw a b p).value ∧ SameBut k (aluSubw a b p).psw (aluSubw a' b' p').psw := by
  subst ha hb; cases h <;> exact ⟨rfl, by constructor⟩
theorem Psw.SameBut.aluDiv (w : Word) (d : Byte) : SameBut k (aluDiv w d p).psw (aluDiv w d p').psw :=
  (h.setNZ8 rfl).withVH _ _

end StatusWord

/-- A primitive that looks at no unseen part of the status word: one value, and status words that differ as before. -/
def Blind (f : Psw → Alu8) : Prop :=
  ∀ {k : Unseen} {p p' : Psw}, Psw.SameBut k p p' →
    (f p').value = (f p).value ∧ Psw.SameBut k (f p).psw (f p').psw

@[simp] theorem blind_aluOr (a b : Byte) : Blind (aluOr a b) := fun h => ⟨rfl, h.setNZ8 rfl⟩
@[simp] theorem blind_aluAnd (a b : Byte) : Blind (aluAnd a b) := fun h => ⟨rfl, h.setNZ8 rfl⟩
@[simp] theorem blind_aluEor (a b : Byte) : Blind (aluEor a b) := fun h => ⟨rfl, h.setNZ8 rfl⟩
@[simp] theorem blind_aluAdc (a b : Byte) : Blind (aluAdc a b) := by
  intro k p p' h
  cases h <;> exact ⟨rfl, by constructor⟩
@[simp] theorem blind_aluSbc (a b : Byte) : Blind (aluSbc a b) := blind_aluAdc a (b ^^^ 0xFF)
@[simp] theorem blind_aluAsl (v : Byte) : Blind (aluAsl v) := fun h => ⟨rfl, (h.setNZ8 rfl).withC rfl⟩
@[simp] theorem blind_aluLsr (v : Byte) : Blind (aluLsr v) := fun h => ⟨rfl, (h.setNZ8 rfl).withC rfl⟩
@[simp] theorem blind_aluRol (v : Byte) : Blind (aluRol v) := by
  intro k p p' h
  cases h <;> exact ⟨rfl, by constructor⟩
@[simp] theorem blind_aluRor (v : Byte) : Blind (aluRor v) := by
  intro k p p' h
  cases h <;> exact ⟨rfl, by constructor⟩
@[simp] theorem blind_aluInc (v : Byte) : Blind (aluInc v) := fun h => ⟨rfl, h.setNZ8 rfl⟩
@[simp] theorem blind_aluDec (v : Byte) : Blind (aluDec v) := fun h => ⟨rfl, h.setNZ8 rfl⟩
@[simp] theorem blind_aluDaa (a : Byte) : Blind (aluDaa a) := by
  intro k p p' h
  cases h <;> exact ⟨rfl, by constructor⟩
@[simp] theorem blind_aluDas (a : Byte) : Blind (aluDas a) := by
  intro k p p' h
  cases h <;> exact ⟨rfl, by constructor⟩

/-! #### What both states hold, read and address alike -/

section Operations

variable {s s' : State} (h : State.SameBut k s s')

include h

theorem State.SameBut.psw : Psw.SameBut k s.psw s'.psw := by cases h <;> constructor
theorem State.SameBut.a_eq : s'.a = s.a := by cases h <;> rfl
theorem State.SameBut.x_eq : s'.x = s.x := by cases h <;> rfl
theorem State.SameBut.y_eq : s'.y = s.y := by cases h <;> rfl
theorem State.SameBut.sp_eq : s'.sp = s.sp := by cases h <;> rfl
theorem State.SameBut.pc_eq : s'.pc = s.pc := by cases h <;> rfl
theorem State.SameBut.halt_eq : s'.halt = s.halt := by cases h <;> rfl
theorem State.SameBut.ax_eq : s'.ax = s.ax := by cases h <;> rfl
theorem State.SameBut.bus_eq (a : Word) : s'.bus a = s.bus a := by cases h <;> rfl
theorem State.SameBut.dp_eq (o : Byte) : s'.dp o = s.dp o := by cases h <;> rfl
theorem State.SameBut.popValue_eq : s'.popValue = s.popValue := by cases h <;> rfl
theorem State.SameBut.popWordValue_eq : s'.popWordValue = s.popWordValue := by cases h <;> rfl
theorem State.SameBut.popRegisterValue_eq : s'.popRegisterValue = s.popRegisterValue := by cases h <;> rfl
theorem State.SameBut.wordValue_eq (a : Word) : s'.wordValue a = s.wordValue a := by cases h <;> rfl
theorem State.SameBut.pointerAt_eq (o : Byte) : s'.pointerAt o = s.pointerAt o := by cases h <;> rfl
theorem State.SameBut.spacedWordValue_eq (o : Byte) : s'.spacedWordValue o = s.spacedWordValue o := by cases h <;> rfl

/-! #### The cycle primitives (R7) and the writes of registers -/

theorem State.SameBut.idle : SameBut k s.idle s'.idle := by cases h <;> constructor
theorem State.SameBut.idles (n : Nat) : SameBut k (s.idles n) (s'.idles n) := by cases h <;> constructor
theorem State.SameBut.fetchOpcode (op : Byte) : SameBut k (s.fetchOpcode op) (s'.fetchOpcode op) := by
  cases h <;> constructor
theorem State.SameBut.fetchOperand1 (v : Byte) : SameBut k (s.fetchOperand1 v) (s'.fetchOperand1 v) := by
  cases h <;> constructor
theorem State.SameBut.fetchOperand2 (v : Byte) : SameBut k (s.fetchOperand2 v) (s'.fetchOperand2 v) := by
  cases h <;> constructor
theorem State.SameBut.read {a a' : Word} (ha : a' = a) : SameBut k (s.read a) (s'.read a') := by
  subst ha; cases h <;> constructor
theorem State.SameBut.discardRead {a a' : Word} (ha : a' = a) : SameBut k (s.discardRead a) (s'.discardRead a') := by
  subst ha; cases h <;> constructor
theorem State.SameBut.write {a a' : Word} {v v' : Byte} (ha : a' = a) (hv : v' = v) :
    SameBut k (s.write a v) (s'.write a' v') := by
  subst ha hv; cases h <;> constructor

theorem State.SameBut.withPsw {p p' : Psw} (hp : Psw.SameBut k p p') :
    SameBut k { s with psw := p } { s' with psw := p' } := by
  cases h <;> cases hp <;> constructor
theorem State.SameBut.withA {v v' : Byte} (hv : v' = v) : SameBut k { s with a := v } { s' with a := v' } := by
  subst hv; cases h <;> constructor
theorem State.SameBut.withX {v v' : Byte} (hv : v' = v) : SameBut k { s with x := v } { s' with x := v' } := by
  subst hv; cases h <;> constructor
theorem State.SameBut.withY {v v' : Byte} (hv : v' = v) : SameBut k { s with y := v } { s' with y := v' } := by
  subst hv; cases h <;> constructor
theorem State.SameBut.withSp {v v' : Byte} (hv : v' = v) : SameBut k { s with sp := v } { s' with sp := v' } := by
  subst hv; cases h <;> constructor
theorem State.SameBut.withPc {w w' : Word} (hw : w' = w) : SameBut k { s with pc := w } { s' with pc := w' } := by
  subst hw; cases h <;> constructor
theorem State.SameBut.withHalt (b : Bool) : SameBut k { s with halt := b } { s' with halt := b } := by
  cases h <;> constructor

/-! #### Operations made of these -/

theorem State.SameBut.setAX {w w' : Word} (hw : w' = w) : SameBut k (s.setAX w) (s'.setAX w') := by
  subst hw; exact (h.withA rfl).withX rfl
theorem State.SameBut.loadA {v v' : Byte} (hv : v' = v) : SameBut k (s.loadA v) (s'.loadA v') :=
  (h.withA hv).withPsw (h.psw.setNZ8 hv)
theorem State.SameBut.loadX {v v' : Byte} (hv : v' = v) : SameBut k (s.loadX v) (s'.loadX v') :=
  (h.withX hv).withPsw (h.psw.setNZ8 hv)
theorem State.SameBut.loadY {v v' : Byte} (hv : v' = v) : SameBut k (s.loadY v) (s'.loadY v') :=
  (h.withY hv).withPsw (h.psw.setNZ8 hv)

theorem State.SameBut.fetch2 (op b1 : Byte) : SameBut k (s.fetch2 op b1) (s'.fetch2 op b1) :=
  (h.fetchOpcode op).fetchOperand1 b1
theorem State.SameBut.fetch3 (op b1 b2 : Byte) : SameBut k (s.fetch3 op b1 b2) (s'.fetch3 op b1 b2) :=
  (h.fetch2 op b1).fetchOperand2 b2
theorem State.SameBut.fetchWord (op : Byte) (w : Word) : SameBut k (s.fetchWord op w) (s'.fetchWord op w) :=
  h.fetch3 op _ _
theorem State.SameBut.fetchBit (op : Byte) (m : Word) (b : BitVec 3) :
    SameBut k (s.fetchBit op m b) (s'.fetchBit op m b) :=
  h.fetchWord op _

theorem State.SameBut.push {v v' : Byte} (hv : v' = v) : SameBut k (s.push v) (s'.push v') := by
  subst hv; cases h <;> constructor
theorem State.SameBut.pop : SameBut k s.pop s'.pop := by cases h <;> constructor
theorem State.SameBut.pushWord {w w' : Word} (hw : w' = w) : SameBut k (s.pushWord w) (s'.pushWord w') := by
  subst hw; exact (h.push rfl).push rfl
theorem State.SameBut.popWord : SameBut k s.popWord s'.popWord := h.pop.pop
theorem State.SameBut.pushRegister {v v' : Byte} (hv : v' = v) : SameBut k (s.pushRegister v) (s'.pushRegister v') :=
  (h.idles 2).push hv
theorem State.SameBut.popRegister : SameBut k s.popRegister s'.popRegister := (h.idles 2).pop

theorem State.SameBut.readWord (a : Word) : SameBut k (s.readWord a) (s'.readWord a) := (h.read rfl).read rfl
theorem State.SameBut.readPointer (o : Byte) : SameBut k (s.readPointer o) (s'.readPointer o) :=
  (h.read (h.dp_eq _)).read (h.dp_eq _)
theorem State.SameBut.readSpacedWord (o : Byte) : SameBut k (s.readSpacedWord o) (s'.readSpacedWord o) :=
  (h.read (h.dp_eq _)).idle.read (h.dp_eq _)

theorem State.SameBut.callTable (n : Nat) : SameBut k (s.callTable n) (s'.callTable n) :=
  (((h.readWord _).idles 3).pushWord h.pc_eq).withPc (h.wordValue_eq _)
/-- BRK stores the whole status word, so that the two have to be one. -/
theorem State.SameBut.takeBreak (hp : s'.psw = s.psw) : SameBut k s.takeBreak s'.takeBreak := by
  rw [State.takeBreak, State.takeBreak, hp]
  have ht := (((h.readWord breakVector).idles 2).pushWord h.pc_eq).push (v := s.psw.toByte) rfl
  exact (ht.withPc (h.wordValue_eq breakVector)).withPsw (.refl { s.psw with b := true, i := false })
theorem State.SameBut.returnFromBreak : SameBut k s.returnFromBreak s'.returnFromBreak :=
  ((h.pop.popWord.idles 2).withPc h.pop.popWordValue_eq).withPsw (h.popValue_eq ▸ .refl _)

theorem State.SameBut.branchIf {b b' : Bool} (hb : b' = b) (r : Byte) :
    SameBut k (s.branchIf b r) (s'.branchIf b' r) := by
  subst hb
  cases b' with
  | true => exact (h.idles 2).withPc (congrArg (· + _) h.pc_eq)
  | false => exact h

theorem State.SameBut.combineA {f : Byte → Byte → Psw → Alu8} (hf : ∀ a b, Blind (f a b)) {v v' : Byte} (hv : v' = v) :
    SameBut k (s.combineA f v) (s'.combineA f v') := by
  subst hv
  obtain ⟨hvalue, hpsw⟩ := hf s.a v' h.psw
  rw [State.combineA, State.combineA, h.a_eq]
  exact (h.withA hvalue).withPsw hpsw
theorem State.SameBut.compare {r r' v v' : Byte} (hr : r' = r) (hv : v' = v) :
    SameBut k (s.compare r v) (s'.compare r' v') :=
  h.withPsw (h.psw.aluCmp hr hv)
theorem State.SameBut.modifyA {f : Byte → Psw → Alu8} (hf : ∀ v, Blind (f v)) :
    SameBut k (s.modifyA f) (s'.modifyA f) := by
  obtain ⟨hvalue, hpsw⟩ := hf s.a h.psw
  rw [State.modifyA, State.modifyA, h.a_eq]
  exact (h.idle.withA hvalue).withPsw hpsw
theorem State.SameBut.modifyX {f : Byte → Psw → Alu8} (hf : ∀ v, Blind (f v)) :
    SameBut k (s.modifyX f) (s'.modifyX f) := by
  obtain ⟨hvalue, hpsw⟩ := hf s.x h.psw
  rw [State.modifyX, State.modifyX, h.x_eq]
  exact (h.idle.withX hvalue).withPsw hpsw
theorem State.SameBut.modifyY {f : Byte → Psw → Alu8} (hf : ∀ v, Blind (f v)) :
    SameBut k (s.modifyY f) (s'.modifyY f) := by
  obtain ⟨hvalue, hpsw⟩ := hf s.y h.psw
  rw [State.modifyY, State.modifyY, h.y_eq]
  exact (h.idle.withY hvalue).withPsw hpsw

/-- Both words are the same sum, of bytes that both states read. -/
theorem State.SameBut.bumpWord (o : Byte) (delta : Word) : SameBut k (s.bumpWord o delta) (s'.bumpWord o delta) := by
  have hdp := h.dp_eq
  have hlow := h.bus_eq (s.dp o)
  have hwrite := (h.read (a := s.dp o) rfl).write (a := s.dp o)
    (v := wordLow (wordOf 0x00 (s.bus (s.dp o)) + delta)) rfl rfl
  have hhigh := hwrite.bus_eq (s.dp (o + 1))
  simp only [State.bumpWord, hdp, hlow, hhigh]
  exact ((hwrite.read rfl).write rfl rfl).withPsw (h.psw.setNZ16 rfl)

end Operations

/-! #### Resolved operands: one address in both states -/

/-- One address, and states that are the same but for what is unseen. -/
inductive Resolved.SameBut (k : Unseen) : Resolved → Resolved → Prop where
  | intro (a : Word) {t t' : State} (h : State.SameBut k t t') : SameBut k ⟨a, t⟩ ⟨a, t'⟩

/-- One byte, and states that are the same but for what is unseen. -/
inductive Sourced.SameBut (k : Unseen) : Sourced → Sourced → Prop where
  | intro (v : Byte) {t t' : State} (h : State.SameBut k t t') : SameBut k ⟨v, t⟩ ⟨v, t'⟩

/-- The resolvers' results are at one address when their addresses are equal. -/
theorem Resolved.SameBut.of_eq {a a' : Word} {t t' : State} (ha : a' = a) (h : State.SameBut k t t') :
    Resolved.SameBut k ⟨a, t⟩ ⟨a', t'⟩ := by
  subst ha; exact .intro a' h

theorem Sourced.SameBut.of_eq {v v' : Byte} {t t' : State} (hv : v' = v) (h : State.SameBut k t t') :
    Sourced.SameBut k ⟨v, t⟩ ⟨v', t'⟩ := by
  subst hv; exact .intro v' h

section Resolvers

variable {s s' : State} (h : State.SameBut k s s')

include h

theorem State.SameBut.directPage (o : Byte) : Resolved.SameBut k (s.directPage o) (s'.directPage o) :=
  .of_eq (h.dp_eq o) h
theorem State.SameBut.directPageX (o : Byte) : Resolved.SameBut k (s.directPageX o) (s'.directPageX o) := by
  rw [State.directPageX, State.directPageX, h.x_eq]; exact .of_eq (h.dp_eq _) h.idle
theorem State.SameBut.directPageY (o : Byte) : Resolved.SameBut k (s.directPageY o) (s'.directPageY o) := by
  rw [State.directPageY, State.directPageY, h.y_eq]; exact .of_eq (h.dp_eq _) h.idle
theorem State.SameBut.absolute (a : Word) : Resolved.SameBut k (s.absolute a) (s'.absolute a) := .intro a h
theorem State.SameBut.absoluteX (a : Word) : Resolved.SameBut k (s.absoluteX a) (s'.absoluteX a) := by
  rw [State.absoluteX, State.absoluteX, h.x_eq]; exact .intro _ h.idle
theorem State.SameBut.absoluteY (a : Word) : Resolved.SameBut k (s.absoluteY a) (s'.absoluteY a) := by
  rw [State.absoluteY, State.absoluteY, h.y_eq]; exact .intro _ h.idle
theorem State.SameBut.absoluteBit (m : Word) : Resolved.SameBut k (s.absoluteBit m) (s'.absoluteBit m) := .intro _ h
theorem State.SameBut.indexedIndirect (o : Byte) : Resolved.SameBut k (s.indexedIndirect o) (s'.indexedIndirect o) := by
  rw [State.indexedIndirect, State.indexedIndirect, h.x_eq]
  exact .of_eq (h.idle.pointerAt_eq _) (h.idle.readPointer _)
theorem State.SameBut.indirectIndexed (o : Byte) : Resolved.SameBut k (s.indirectIndexed o) (s'.indirectIndexed o) := by
  rw [State.indirectIndexed, State.indirectIndexed, h.y_eq, h.idle.pointerAt_eq]
  exact .intro _ (h.idle.readPointer _)
theorem State.SameBut.indirectIndexedStore (o : Byte) :
    Resolved.SameBut k (s.indirectIndexedStore o) (s'.indirectIndexedStore o) := by
  rw [State.indirectIndexedStore, State.indirectIndexedStore, h.y_eq, h.pointerAt_eq]
  exact .intro _ (h.readPointer _).idle
theorem State.SameBut.indirectX : Resolved.SameBut k s.indirectX s'.indirectX := by
  rw [State.indirectX, State.indirectX, h.x_eq]; exact .of_eq (h.dp_eq _) h.idle
theorem State.SameBut.indirectYSource : Sourced.SameBut k s.indirectYSource s'.indirectYSource := by
  rw [State.indirectYSource, State.indirectYSource, h.y_eq, h.dp_eq]
  exact .of_eq (h.idle.bus_eq _) (h.idle.read rfl)
theorem State.SameBut.immediateSource (op imm dst : Byte) :
    Sourced.SameBut k (s.immediateSource op imm dst) (s'.immediateSource op imm dst) :=
  .intro imm (h.fetch3 op imm dst)
theorem State.SameBut.directPageSource (op src dst : Byte) :
    Sourced.SameBut k (s.directPageSource op src dst) (s'.directPageSource op src dst) := by
  have ht := h.fetch2 op src
  rw [State.directPageSource, State.directPageSource, ht.dp_eq]
  exact .of_eq (ht.bus_eq _) ((ht.read rfl).fetchOperand2 dst)

end Resolvers

section AtAddress

variable {r r' : Resolved} (hr : Resolved.SameBut k r r')

include hr

theorem Resolved.SameBut.value_eq : r'.value = r.value := by cases hr with | intro a h => exact h.bus_eq a
theorem Resolved.SameBut.addr_eq : r'.addr = r.addr := by cases hr; rfl
theorem Resolved.SameBut.read : State.SameBut k r.read r'.read := by cases hr with | intro a h => exact h.read rfl
theorem Resolved.SameBut.loadA : State.SameBut k r.loadA r'.loadA := hr.read.loadA hr.value_eq
theorem Resolved.SameBut.loadX : State.SameBut k r.loadX r'.loadX := hr.read.loadX hr.value_eq
theorem Resolved.SameBut.loadY : State.SameBut k r.loadY r'.loadY := hr.read.loadY hr.value_eq
theorem Resolved.SameBut.store {v v' : Byte} (hv : v' = v) : State.SameBut k (r.store v) (r'.store v') := by
  cases hr with | intro a h => exact (h.discardRead rfl).write rfl hv
theorem Resolved.SameBut.combineA {f : Byte → Byte → Psw → Alu8} (hf : ∀ a b, Blind (f a b) := by simp) :
    State.SameBut k (r.combineA f) (r'.combineA f) :=
  hr.read.combineA hf hr.value_eq
theorem Resolved.SameBut.compare {v v' : Byte} (hv : v' = v) : State.SameBut k (r.compare v) (r'.compare v') :=
  hr.read.compare hv hr.value_eq
theorem Resolved.SameBut.rewrite (f : Byte → Byte) : State.SameBut k (r.rewrite f) (r'.rewrite f) :=
  hr.read.write hr.addr_eq (congrArg f hr.value_eq)
theorem Resolved.SameBut.modify {f : Byte → Psw → Alu8} (hf : ∀ v, Blind (f v) := by simp) :
    State.SameBut k (r.modify f) (r'.modify f) := by
  obtain ⟨hvalue, hpsw⟩ := hf r.value hr.read.psw
  rw [Resolved.modify, Resolved.modify, hr.value_eq]
  exact (hr.read.write hr.addr_eq hvalue).withPsw hpsw

end AtAddress

section FromSource

variable {src src' : Sourced} (hs : Sourced.SameBut k src src') {d d' : Word}

include hs

theorem Sourced.SameBut.value_eq : src'.value = src.value := by cases hs; rfl
theorem Sourced.SameBut.after : State.SameBut k src.after src'.after := by cases hs with | intro v h => exact h
theorem Sourced.SameBut.combineAt {f : Byte → Byte → Psw → Alu8} (hd : d' = d)
    (hf : ∀ a b, Blind (f a b) := by simp) : State.SameBut k (src.combineAt f d) (src'.combineAt f d') := by
  subst hd
  cases hs with | intro v h => exact Resolved.SameBut.modify (.intro d' h) (fun t => hf t v)
theorem Sourced.SameBut.compareAt (hd : d' = d) : State.SameBut k (src.compareAt d) (src'.compareAt d') := by
  subst hd
  cases hs with | intro v h => exact ((h.read rfl).compare (h.bus_eq d') rfl).idle

end FromSource

theorem State.SameBut.branchOnBit {s s' : State} (h : State.SameBut k s s') (op o r : Byte) (b : BitVec 3)
    (want : Bool) : SameBut k (s.branchOnBit op o r b want) (s'.branchOnBit op o r b want) := by
  have hs := h.directPageSource op o r
  exact hs.after.idle.branchIf (by rw [hs.value_eq]) r

end Lockstep

/-! #### Every instruction keeps two such states together -/

/-- The instruction runs in both states, and the next states are the same but for what is unseen. -/
def Lockstep (k : Unseen) (i : Instr) (s s' : State) : Prop :=
  ∃ t t', exec i s = .next t ∧ exec i s' = .next t' ∧ State.SameBut k t t'

theorem Lockstep.of {k : Unseen} {i : Instr} {s s' t t' : State} (hexec : exec i s = .next t)
    (hexec' : exec i s' = .next t') (h : State.SameBut k t t') : Lockstep k i s s' :=
  ⟨t, t', hexec, hexec', h⟩

/-- PUSH PSW and BRK store the whole status word (R36, R406): there the two status words have to be one. -/
theorem exec_lockstep {k : Unseen} {s s' : State} (h : State.SameBut k s s') (i : Instr)
    (hpsw : i = .pushPsw ∨ i = .brk → s'.psw = s.psw) : Lockstep k i s s' := by
  cases i with
  -- A byte is given or read, and goes into a register or the flags.
  | movAImm => exact .of rfl rfl ((h.fetch2 _ _).loadA rfl)
  | movXImm => exact .of rfl rfl ((h.fetch2 _ _).loadX rfl)
  | movYImm => exact .of rfl rfl ((h.fetch2 _ _).loadY rfl)
  | orAImm | andAImm | eorAImm | adcAImm | sbcAImm =>
    exact .of rfl rfl ((h.fetch2 _ _).combineA (by simp) rfl)
  | cmpAImm => exact .of rfl rfl ((h.fetch2 _ _).compare h.a_eq rfl)
  | cmpXImm => exact .of rfl rfl ((h.fetch2 _ _).compare h.x_eq rfl)
  | cmpYImm => exact .of rfl rfl ((h.fetch2 _ _).compare h.y_eq rfl)
  | movADp => exact .of rfl rfl ((h.fetch2 _ _).directPage _).loadA
  | movXDp => exact .of rfl rfl ((h.fetch2 _ _).directPage _).loadX
  | movYDp => exact .of rfl rfl ((h.fetch2 _ _).directPage _).loadY
  | orADp | andADp | eorADp | adcADp | sbcADp => exact .of rfl rfl ((h.fetch2 _ _).directPage _).combineA
  | cmpADp => exact .of rfl rfl (((h.fetch2 _ _).directPage _).compare h.a_eq)
  | cmpXDp => exact .of rfl rfl (((h.fetch2 _ _).directPage _).compare h.x_eq)
  | cmpYDp => exact .of rfl rfl (((h.fetch2 _ _).directPage _).compare h.y_eq)
  | movADpX => exact .of rfl rfl ((h.fetch2 _ _).directPageX _).loadA
  | movYDpX => exact .of rfl rfl ((h.fetch2 _ _).directPageX _).loadY
  | orADpX | andADpX | eorADpX | adcADpX | sbcADpX => exact .of rfl rfl ((h.fetch2 _ _).directPageX _).combineA
  | cmpADpX => exact .of rfl rfl (((h.fetch2 _ _).directPageX _).compare h.a_eq)
  | movXDpY => exact .of rfl rfl ((h.fetch2 _ _).directPageY _).loadX
  | movAAbs => exact .of rfl rfl ((h.fetchWord _ _).absolute _).loadA
  | movXAbs => exact .of rfl rfl ((h.fetchWord _ _).absolute _).loadX
  | movYAbs => exact .of rfl rfl ((h.fetchWord _ _).absolute _).loadY
  | orAAbs | andAAbs | eorAAbs | adcAAbs | sbcAAbs => exact .of rfl rfl ((h.fetchWord _ _).absolute _).combineA
  | cmpAAbs => exact .of rfl rfl (((h.fetchWord _ _).absolute _).compare h.a_eq)
  | cmpXAbs => exact .of rfl rfl (((h.fetchWord _ _).absolute _).compare h.x_eq)
  | cmpYAbs => exact .of rfl rfl (((h.fetchWord _ _).absolute _).compare h.y_eq)
  | movAAbsX => exact .of rfl rfl ((h.fetchWord _ _).absoluteX _).loadA
  | orAAbsX | andAAbsX | eorAAbsX | adcAAbsX | sbcAAbsX => exact .of rfl rfl ((h.fetchWord _ _).absoluteX _).combineA
  | cmpAAbsX => exact .of rfl rfl (((h.fetchWord _ _).absoluteX _).compare h.a_eq)
  | movAAbsY => exact .of rfl rfl ((h.fetchWord _ _).absoluteY _).loadA
  | orAAbsY | andAAbsY | eorAAbsY | adcAAbsY | sbcAAbsY => exact .of rfl rfl ((h.fetchWord _ _).absoluteY _).combineA
  | cmpAAbsY => exact .of rfl rfl (((h.fetchWord _ _).absoluteY _).compare h.a_eq)
  | movAIdxInd => exact .of rfl rfl ((h.fetch2 _ _).indexedIndirect _).loadA
  | orAIdxInd | andAIdxInd | eorAIdxInd | adcAIdxInd | sbcAIdxInd =>
    exact .of rfl rfl ((h.fetch2 _ _).indexedIndirect _).combineA
  | cmpAIdxInd => exact .of rfl rfl (((h.fetch2 _ _).indexedIndirect _).compare h.a_eq)
  | movAIndIdx => exact .of rfl rfl ((h.fetch2 _ _).indirectIndexed _).loadA
  | orAIndIdx | andAIndIdx | eorAIndIdx | adcAIndIdx | sbcAIndIdx =>
    exact .of rfl rfl ((h.fetch2 _ _).indirectIndexed _).combineA
  | cmpAIndIdx => exact .of rfl rfl (((h.fetch2 _ _).indirectIndexed _).compare h.a_eq)
  | movAIndX => exact .of rfl rfl (h.fetchOpcode _).indirectX.loadA
  | orAIndX | andAIndX | eorAIndX | adcAIndX | sbcAIndX => exact .of rfl rfl (h.fetchOpcode _).indirectX.combineA
  | cmpAIndX => exact .of rfl rfl ((h.fetchOpcode _).indirectX.compare h.a_eq)
  | movAIndXInc =>
    have hr := (h.fetchOpcode 0xBF).indirectX
    exact .of rfl rfl (((hr.read.idle.withA hr.value_eq).withX (congrArg (· + 1) h.x_eq)).withPsw
      (h.psw.setNZ8 hr.value_eq))
  -- A register or an immediate is stored.
  | movDpA => exact .of rfl rfl (((h.fetch2 _ _).directPage _).store h.a_eq)
  | movDpX => exact .of rfl rfl (((h.fetch2 _ _).directPage _).store h.x_eq)
  | movDpY => exact .of rfl rfl (((h.fetch2 _ _).directPage _).store h.y_eq)
  | movDpXA => exact .of rfl rfl (((h.fetch2 _ _).directPageX _).store h.a_eq)
  | movDpXY => exact .of rfl rfl (((h.fetch2 _ _).directPageX _).store h.y_eq)
  | movDpYX => exact .of rfl rfl (((h.fetch2 _ _).directPageY _).store h.x_eq)
  | movAbsA => exact .of rfl rfl (((h.fetchWord _ _).absolute _).store h.a_eq)
  | movAbsX => exact .of rfl rfl (((h.fetchWord _ _).absolute _).store h.x_eq)
  | movAbsY => exact .of rfl rfl (((h.fetchWord _ _).absolute _).store h.y_eq)
  | movAbsXA => exact .of rfl rfl (((h.fetchWord _ _).absoluteX _).store h.a_eq)
  | movAbsYA => exact .of rfl rfl (((h.fetchWord _ _).absoluteY _).store h.a_eq)
  | movIdxIndA => exact .of rfl rfl (((h.fetch2 _ _).indexedIndirect _).store h.a_eq)
  | movIndIdxA => exact .of rfl rfl (((h.fetch2 _ _).indirectIndexedStore _).store h.a_eq)
  | movIndXA => exact .of rfl rfl ((h.fetchOpcode _).indirectX.store h.a_eq)
  | movDpImm => exact .of rfl rfl (((h.fetch3 _ _ _).directPage _).store rfl)
  | movIndXIncA =>
    have ht := (h.fetchOpcode 0xAF).idles 2
    exact .of rfl rfl ((ht.write (by rw [ht.x_eq, ht.dp_eq]) ht.a_eq).withX (congrArg (· + 1) ht.x_eq))
  | movDpDp dst src =>
    have hs := h.directPageSource 0xFA src dst
    exact .of rfl rfl (hs.after.write (hs.after.dp_eq _) hs.value_eq)
  -- Words in the direct page.
  | movwAXDp o =>
    have ht := h.fetch2 0xBA o
    have hw := ht.spacedWordValue_eq o
    exact .of rfl rfl (((ht.readSpacedWord o).setAX hw).withPsw (h.psw.setNZ16 hw))
  | addwAXDp o =>
    have ht := h.fetch2 0x7A o
    obtain ⟨hvalue, hpsw⟩ := h.psw.aluAddw h.ax_eq (ht.spacedWordValue_eq o)
    exact .of rfl rfl (((ht.readSpacedWord o).setAX hvalue).withPsw hpsw)
  | subwAXDp o =>
    have ht := h.fetch2 0x9A o
    obtain ⟨hvalue, hpsw⟩ := h.psw.aluSubw h.ax_eq (ht.spacedWordValue_eq o)
    exact .of rfl rfl (((ht.readSpacedWord o).setAX hvalue).withPsw hpsw)
  | cmpwAXDp o =>
    have ht := h.fetch2 0x5A o
    exact .of rfl rfl ((ht.readPointer o).withPsw (h.psw.aluCmpw h.ax_eq (ht.pointerAt_eq o)))
  | movwDpAX o =>
    have ht := h.fetch2 0xDA o
    exact .of rfl rfl (((ht.discardRead (ht.dp_eq _)).write (ht.dp_eq _) ht.x_eq).write (ht.dp_eq _) ht.a_eq)
  | incwDp | decwDp => exact .of rfl rfl ((h.fetch2 _ _).bumpWord _ _)
  -- One bit of an absolute address.
  | mov1CBit m b =>
    have hr := (h.fetchBit 0xAA m b).absoluteBit m
    exact .of rfl rfl (hr.read.withPsw (h.psw.withC (by rw [hr.value_eq])))
  | and1CBit m b =>
    have hr := (h.fetchBit 0x4A m b).absoluteBit m
    exact .of rfl rfl (hr.read.withPsw (h.psw.withC (by rw [hr.value_eq, h.psw.c_eq])))
  | and1CNotBit m b =>
    have hr := (h.fetchBit 0x6A m b).absoluteBit m
    exact .of rfl rfl (hr.read.withPsw (h.psw.withC (by rw [hr.value_eq, h.psw.c_eq])))
  | or1CBit m b =>
    have hr := (h.fetchBit 0x0A m b).absoluteBit m
    exact .of rfl rfl (hr.read.idle.withPsw (h.psw.withC (by rw [hr.value_eq, h.psw.c_eq])))
  | or1CNotBit m b =>
    have hr := (h.fetchBit 0x2A m b).absoluteBit m
    exact .of rfl rfl (hr.read.idle.withPsw (h.psw.withC (by rw [hr.value_eq, h.psw.c_eq])))
  | eor1CBit m b =>
    have hr := (h.fetchBit 0x8A m b).absoluteBit m
    exact .of rfl rfl (hr.read.idle.withPsw (h.psw.withC (by rw [hr.value_eq, h.psw.c_eq])))
  | mov1BitC m b =>
    have hr := (h.fetchBit 0xCA m b).absoluteBit m
    exact .of rfl rfl (hr.read.idle.write hr.addr_eq (by rw [hr.value_eq, h.psw.c_eq]))
  | not1Bit => exact .of rfl rfl (((h.fetchBit _ _ _).absoluteBit _).rewrite _)
  -- A byte is read, changed and written.
  | aslDp | rolDp | lsrDp | rorDp | decDp | incDp => exact .of rfl rfl ((h.fetch2 _ _).directPage _).modify
  | aslDpX | rolDpX | lsrDpX | rorDpX | decDpX | incDpX => exact .of rfl rfl ((h.fetch2 _ _).directPageX _).modify
  | aslAbs | rolAbs | lsrAbs | rorAbs | decAbs | incAbs => exact .of rfl rfl ((h.fetchWord _ _).absolute _).modify
  | set1b0 | set1b1 | set1b2 | set1b3 | set1b4 | set1b5 | set1b6 | set1b7
  | clr1b0 | clr1b1 | clr1b2 | clr1b3 | clr1b4 | clr1b5 | clr1b6 | clr1b7 =>
    exact .of rfl rfl (((h.fetch2 _ _).directPage _).rewrite _)
  | tset1Abs a =>
    have hr := (h.fetchWord 0x0E a).absolute a
    exact .of rfl rfl (((hr.read.discardRead hr.addr_eq).write hr.addr_eq (by rw [hr.value_eq, h.a_eq])).withPsw
      (h.psw.setNZ8 (by rw [hr.value_eq, h.a_eq])))
  | tclr1Abs a =>
    have hr := (h.fetchWord 0x4E a).absolute a
    exact .of rfl rfl (((hr.read.discardRead hr.addr_eq).write hr.addr_eq (by rw [hr.value_eq, h.a_eq])).withPsw
      (h.psw.setNZ8 (by rw [hr.value_eq, h.a_eq])))
  | orDpDp | andDpDp | eorDpDp | adcDpDp | sbcDpDp =>
    exact .of rfl rfl ((h.directPageSource _ _ _).combineAt (h.dp_eq _))
  | orDpImm | andDpImm | eorDpImm | adcDpImm | sbcDpImm =>
    exact .of rfl rfl ((h.immediateSource _ _ _).combineAt (h.dp_eq _))
  | orIndXIndY | andIndXIndY | eorIndXIndY | adcIndXIndY | sbcIndXIndY =>
    exact .of rfl rfl ((h.fetchOpcode _).indirectYSource.combineAt (by rw [h.x_eq, h.dp_eq]))
  | cmpDpDp => exact .of rfl rfl ((h.directPageSource _ _ _).compareAt (h.dp_eq _))
  | cmpDpImm => exact .of rfl rfl ((h.immediateSource _ _ _).compareAt (h.dp_eq _))
  | cmpIndXIndY => exact .of rfl rfl ((h.fetchOpcode _).indirectYSource.compareAt (by rw [h.x_eq, h.dp_eq]))
  -- Registers and flags alone.
  | nop => exact .of rfl rfl (h.fetchOpcode _).idle
  | sleep | stop => exact .of rfl rfl (((h.fetchOpcode _).idles 2).withHalt true)
  | movAX => exact .of rfl rfl ((h.fetchOpcode _).idle.loadA h.x_eq)
  | movAY => exact .of rfl rfl ((h.fetchOpcode _).idle.loadA h.y_eq)
  | movXA => exact .of rfl rfl ((h.fetchOpcode _).idle.loadX h.a_eq)
  | movYA => exact .of rfl rfl ((h.fetchOpcode _).idle.loadY h.a_eq)
  | movXSP => exact .of rfl rfl ((h.fetchOpcode _).idle.loadX h.sp_eq)
  | movSPX => exact .of rfl rfl ((h.fetchOpcode _).idle.withSp h.x_eq)
  | clrc | setc => exact .of rfl rfl ((h.fetchOpcode _).idle.withPsw (h.psw.withC rfl))
  | clrp | setp => exact .of rfl rfl ((h.fetchOpcode _).idle.withPsw (h.psw.withP _))
  | clrv => exact .of rfl rfl ((h.fetchOpcode _).idle.withPsw (h.psw.withVH _ _))
  | notc => exact .of rfl rfl (((h.fetchOpcode _).idles 2).withPsw (h.psw.withC (congrArg (!·) h.psw.c_eq)))
  | ei | di => exact .of rfl rfl (((h.fetchOpcode _).idles 2).withPsw (h.psw.withI _))
  | aslA | rolA | lsrA | rorA | decA | incA => exact .of rfl rfl ((h.fetchOpcode _).modifyA (by simp))
  | decX | incX => exact .of rfl rfl ((h.fetchOpcode _).modifyX (by simp))
  | decY | incY => exact .of rfl rfl ((h.fetchOpcode _).modifyY (by simp))
  | xcn => exact .of rfl rfl (((h.fetchOpcode _).idles 4).loadA (by rw [h.a_eq]))
  | daa =>
    obtain ⟨hvalue, hpsw⟩ := blind_aluDaa s.a h.psw
    refine .of rfl rfl ?_
    rw [h.a_eq]
    exact (((h.fetchOpcode _).idles 2).withA hvalue).withPsw hpsw
  | das =>
    obtain ⟨hvalue, hpsw⟩ := blind_aluDas s.a h.psw
    refine .of rfl rfl ?_
    rw [h.a_eq]
    exact (((h.fetchOpcode _).idles 2).withA hvalue).withPsw hpsw
  | mulAX =>
    refine .of rfl rfl ?_
    rw [h.a_eq, h.x_eq]
    exact (((h.fetchOpcode _).idles 8).setAX rfl).withPsw (h.psw.setNZ16 rfl)
  | divAXY =>
    refine .of rfl rfl ?_
    rw [h.ax_eq, h.y_eq]
    exact ((((h.fetchOpcode _).idles 11).withX rfl).withA rfl).withPsw (h.psw.aluDiv _ _)
  -- The stack.
  | pushA => exact .of rfl rfl ((h.fetchOpcode _).pushRegister h.a_eq)
  | pushX => exact .of rfl rfl ((h.fetchOpcode _).pushRegister h.x_eq)
  | pushY => exact .of rfl rfl ((h.fetchOpcode _).pushRegister h.y_eq)
  | pushPsw => exact .of rfl rfl ((h.fetchOpcode _).pushRegister (congrArg Psw.toByte (hpsw (.inl rfl))))
  | popA => exact .of rfl rfl ((h.fetchOpcode _).popRegister.withA (h.fetchOpcode _).popRegisterValue_eq)
  | popX => exact .of rfl rfl ((h.fetchOpcode _).popRegister.withX (h.fetchOpcode _).popRegisterValue_eq)
  | popY => exact .of rfl rfl ((h.fetchOpcode _).popRegister.withY (h.fetchOpcode _).popRegisterValue_eq)
  | popPsw =>
    refine .of rfl rfl ?_
    rw [(h.fetchOpcode _).popRegisterValue_eq]
    exact (h.fetchOpcode _).popRegister.withPsw (.refl _)
  -- Jumps, calls, the trap and the returns.
  | bra => exact .of rfl rfl ((h.fetch2 _ _).branchIf rfl _)
  | jmpAbs => exact .of rfl rfl ((h.fetchWord _ _).withPc rfl)
  | jmpAbsXInd addr =>
    have ht := (h.fetchWord 0x1F addr).idle
    refine .of rfl rfl ?_
    rw [h.x_eq]
    exact (ht.readWord _).withPc (ht.wordValue_eq _)
  | call => exact .of rfl rfl ((((h.fetchWord _ _).idles 3).pushWord (h.fetchWord _ _).pc_eq).withPc rfl)
  | pcall => exact .of rfl rfl ((((h.fetch2 _ _).idles 2).pushWord (h.fetch2 _ _).pc_eq).withPc rfl)
  | tcall0 | tcall1 | tcall2 | tcall3 | tcall4 | tcall5 | tcall6 | tcall7
  | tcall8 | tcall9 | tcall10 | tcall11 | tcall12 | tcall13 | tcall14 | tcall15 =>
    exact .of rfl rfl ((h.fetchOpcode _).callTable _)
  | brk => exact .of rfl rfl ((h.fetchOpcode _).takeBreak (hpsw (.inr rfl)))
  | ret =>
    have ht := h.fetchOpcode 0x6F
    exact .of rfl rfl ((ht.popWord.idles 2).withPc ht.popWordValue_eq)
  | reti => exact .of rfl rfl (h.fetchOpcode _).returnFromBreak
  -- Conditional branches.
  | beq | bne => exact .of rfl rfl ((h.fetch2 _ _).branchIf (by rw [h.psw.z_eq]) _)
  | bcs | bcc => exact .of rfl rfl ((h.fetch2 _ _).branchIf (by rw [h.psw.c_eq]) _)
  | bvs | bvc => exact .of rfl rfl ((h.fetch2 _ _).branchIf (by rw [h.psw.v_eq]) _)
  | bmi | bpl => exact .of rfl rfl ((h.fetch2 _ _).branchIf (by rw [h.psw.n_eq]) _)
  | bbs0 o r | bbs1 o r | bbs2 o r | bbs3 o r | bbs4 o r | bbs5 o r | bbs6 o r | bbs7 o r
  | bbc0 o r | bbc1 o r | bbc2 o r | bbc3 o r | bbc4 o r | bbc5 o r | bbc6 o r | bbc7 o r =>
    exact .of rfl rfl (h.branchOnBit _ o r _ _)
  | cbneDp o r =>
    have hs := h.directPageSource 0x2E o r
    exact .of rfl rfl (hs.after.idle.branchIf (by rw [hs.value_eq, h.a_eq]) r)
  | cbneDpX o r =>
    have hr := (h.fetch2 0xDE o).directPageX o
    exact .of rfl rfl ((hr.read.fetchOperand2 r).idle.branchIf (by rw [hr.value_eq, h.a_eq]) r)
  | dbnzDp o r =>
    have hr := (h.fetch2 0x6E o).directPage o
    exact .of rfl rfl (((hr.read.write hr.addr_eq (by rw [hr.value_eq])).fetchOperand2 r).branchIf
      (by rw [hr.value_eq]) r)
  | dbnzY r =>
    refine .of rfl rfl ?_
    rw [h.y_eq]
    exact ((h.fetch2 0xFE r).idle.withY rfl).idle.branchIf rfl r

/-- Settles O15: I is unseen by every instruction but the two that store the status word. -/
theorem interruptEnableIsInert : Obligations.InterruptEnableIsInert := by
  intro i s s' hpush hbrk h
  obtain ⟨t, t', ht, ht', hsame⟩ :=
    exec_lockstep (State.sameBut_flagI_iff.mpr h) i (fun hi => (hi.elim hpush hbrk).elim)
  exact ⟨t, t', ht, ht', State.sameBut_flagI_iff.mp hsame⟩

/-! #### Every step keeps two states together that differ in their latches -/

section

variable {k : Unseen} {s s' : State} (h : State.SameBut k s s')

include h

theorem State.SameBut.beforeOperand2 (slot : Slot) (b1 : Byte) :
    SameBut k (s.beforeOperand2 slot b1) (s'.beforeOperand2 slot b1) := by
  cases slot with
  | late late mk =>
    cases late with
    | afterRead => exact h.read (h.dp_eq _)
    | afterIndexedRead => exact h.idle.read (by rw [h.x_eq, h.dp_eq])
    | afterDecrement => exact (h.read (h.dp_eq _)).write (h.dp_eq _) (by rw [h.dp_eq, h.bus_eq])
  | implied | operand | twoOperands | wordOperand | bitOperand => exact h

/-- The bytes that say which instruction runs are bytes that both states read. -/
theorem State.SameBut.nextInstr_eq : s'.nextInstr = s.nextInstr := by
  have hop : s'.opcodeByte = s.opcodeByte := by
    rw [State.opcodeByte, State.opcodeByte, h.pc_eq, h.bus_eq]
  have h1 : s'.operandByte1 = s.operandByte1 := by
    have ht := h.fetchOpcode s.opcodeByte
    simp only [State.operandByte1, hop, ht.pc_eq, ht.bus_eq]
  have h2 : s'.operandByte2 = s.operandByte2 := by
    have ht := (h.fetch2 s.opcodeByte s.operandByte1).beforeOperand2 (slotOf s.opcodeByte) s.operandByte1
    simp only [State.operandByte2, hop, h1, ht.pc_eq, ht.bus_eq]
  rw [State.nextInstr, State.nextInstr, hop, h1, h2]

end

/-- Settles O16: both cores idle, or both run one instruction, in lockstep. -/
theorem operandLatchesAreDead : Obligations.OperandLatchesAreDead := by
  intro s s' h
  have hsame := State.sameBut_latches_iff.mpr h
  have hpsw : s'.psw = s.psw := by rw [h]
  cases hhalt : s.halt with
  | true =>
    exact ⟨_, _, stepWith_of_halted _ s hhalt, stepWith_of_halted _ s' (hsame.halt_eq.trans hhalt),
      State.sameBut_latches_iff.mp hsame.idle⟩
  | false =>
    obtain ⟨t, t', ht, ht', htt⟩ := exec_lockstep hsame s.nextInstr (fun _ => hpsw)
    rw [← step_of_running s hhalt] at ht
    rw [← hsame.nextInstr_eq, ← step_of_running s' (hsame.halt_eq.trans hhalt)] at ht'
    exact ⟨t, t', ht, ht', State.sameBut_latches_iff.mp htt⟩

/-! ### Sound states (R42, R50, log entries 1 and 3)

The timing table bounds the cost and gives the trace one event for each cycle; what is left to say of an instruction is
that memory changes by stores alone and that nothing touches the bus's answers to come. -/

/-- Memory comes from the old memory by stores. -/
inductive StoredInto (m : Memory) : Memory → Prop where
  | same : StoredInto m m
  | store {m' : Memory} (a : Word) (v : Byte) (h : StoredInto m m') : StoredInto m (memStore m' a.toNat v)

/-- Stores keep the canonical form. -/
theorem StoredInto.wf {m m' : Memory} (h : StoredInto m m') (hm : Memory.wf m) : Memory.wf m' := by
  induction h with
  | same => exact hm
  | store a v _ ih => exact Memory.wf_memStore _ a v ih

/-- A branch, taken or not, writes no flag, no HALT, no memory and nothing of the bus's answers. -/
@[simp] theorem State.branchIf_psw (s : State) (taken : Bool) (d : Byte) : (s.branchIf taken d).psw = s.psw := by
  cases taken <;> rfl
@[simp] theorem State.branchIf_halt (s : State) (taken : Bool) (d : Byte) : (s.branchIf taken d).halt = s.halt := by
  cases taken <;> rfl
@[simp] theorem State.branchIf_mem (s : State) (taken : Bool) (d : Byte) : (s.branchIf taken d).mem = s.mem := by
  cases taken <;> rfl
@[simp] theorem State.branchIf_oracle (s : State) (taken : Bool) (d : Byte) :
    (s.branchIf taken d).oracle = s.oracle := by
  cases taken <;> rfl

/-- INCW and DECW write two bytes, whatever the step. -/
theorem State.bumpWord_storedInto {m : Memory} (s : State) (o : Byte) (delta : Word) (h : s.mem = m) :
    StoredInto m (s.bumpWord o delta).mem := by
  rw [State.bumpWord_eq, ← h]
  exact .store _ _ (.store _ _ .same)
/-- The 16-bit step writes no flag but N and Z. -/
theorem State.bumpWord_b (s : State) (o : Byte) (delta : Word) : (s.bumpWord o delta).psw.b = s.psw.b := rfl

/-- A conditional branch runs up to the point where it is taken or not; on the way there no flag and no HALT is
written, and memory by DBNZ dp alone. -/
theorem exec_conditionalBranch {i : Instr} (s : State) (h : conditionalBranch i = true) :
    ∃ (u : State) (taken : Bool) (d : Byte), exec i s = .next (u.branchIf taken d) ∧ u.halt = s.halt ∧
      u.psw = s.psw ∧ u.oracle = s.oracle ∧ StoredInto s.mem u.mem := by
  cases s
  cases i with
  | bpl | bmi | bvc | bvs | bcc | bcs | bne | beq | bbs0 | bbs1 | bbs2 | bbs3 | bbs4 | bbs5 | bbs6 | bbs7
  | bbc0 | bbc1 | bbc2 | bbc3 | bbc4 | bbc5 | bbc6 | bbc7 | cbneDp | cbneDpX | dbnzY =>
    exact ⟨_, _, _, rfl, rfl, rfl, rfl, .same⟩
  | dbnzDp => exact ⟨_, _, _, rfl, rfl, rfl, rfl, .store _ _ .same⟩
  | _ => cases h

/-- The instruction completes, changes memory by stores alone, and leaves the bus's answers to come. One case for each
number of bytes written; the state is taken apart into its fields, so that each field of the next one computes. -/
theorem exec_storesOnly (i : Instr) (s : State) :
    ∃ t, exec i s = .next t ∧ t.oracle = s.oracle ∧ StoredInto s.mem t.mem := by
  cases hbranch : conditionalBranch i with
  | true =>
    obtain ⟨u, taken, d, hexec, -, -, horacle, hmem⟩ := exec_conditionalBranch s hbranch
    exact ⟨_, hexec, by rw [State.branchIf_oracle, horacle], by rwa [State.branchIf_mem]⟩
  | false =>
    cases s
    cases i with
    | bpl | bmi | bvc | bvs | bcc | bcs | bne | beq | bbs0 | bbs1 | bbs2 | bbs3 | bbs4 | bbs5 | bbs6 | bbs7
    | bbc0 | bbc1 | bbc2 | bbc3 | bbc4 | bbc5 | bbc6 | bbc7 | cbneDp | cbneDpX | dbnzY | dbnzDp => cases hbranch
    -- One byte is written: a store, a byte changed in place, a push.
    | movDpA | movDpX | movDpY | movDpXA | movDpXY | movDpYX | movAbsA | movAbsX | movAbsY | movAbsXA | movAbsYA
    | movIdxIndA | movIndIdxA | movIndXA | movIndXIncA | movDpImm | movDpDp | mov1BitC | not1Bit
    | aslDp | rolDp | lsrDp | rorDp | decDp | incDp | aslDpX | rolDpX | lsrDpX | rorDpX | decDpX | incDpX
    | aslAbs | rolAbs | lsrAbs | rorAbs | decAbs | incAbs | tset1Abs | tclr1Abs
    | set1b0 | set1b1 | set1b2 | set1b3 | set1b4 | set1b5 | set1b6 | set1b7
    | clr1b0 | clr1b1 | clr1b2 | clr1b3 | clr1b4 | clr1b5 | clr1b6 | clr1b7
    | orDpDp | andDpDp | eorDpDp | adcDpDp | sbcDpDp | orDpImm | andDpImm | eorDpImm | adcDpImm | sbcDpImm
    | orIndXIndY | andIndXIndY | eorIndXIndY | adcIndXIndY | sbcIndXIndY | pushA | pushX | pushY | pushPsw =>
      exact ⟨_, rfl, rfl, .store _ _ .same⟩
    -- A word is written: a direct-page word, a return address.
    | incwDp | decwDp => exact ⟨_, rfl, rfl, State.bumpWord_storedInto _ _ _ rfl⟩
    | movwDpAX | call | pcall | tcall0 | tcall1 | tcall2 | tcall3 | tcall4 | tcall5 | tcall6 | tcall7
    | tcall8 | tcall9 | tcall10 | tcall11 | tcall12 | tcall13 | tcall14 | tcall15 =>
      exact ⟨_, rfl, rfl, .store _ _ (.store _ _ .same)⟩
    | brk => exact ⟨_, rfl, rfl, .store _ _ (.store _ _ (.store _ _ .same))⟩
    | _ => exact ⟨_, rfl, rfl, .same⟩

/-- The longest row of the table, a taken branch's two cycles counted, is DIV's (R448). -/
theorem cycleSequence_length_le (i : Instr) :
    (cycleSequence i).length + (if conditionalBranch i then 2 else 0) ≤ 12 := by
  cases i <;> exact Nat.le_of_ble_eq_true rfl

/-- An account of the cycles keeps the trace as long as the counter says. -/
theorem Spends.trace_length {s t : State} {ks : List CycleKind} (h : Spends s ks t)
    (hs : s.trace.length = s.cycles) : t.trace.length = t.cycles := by
  obtain ⟨events, htrace, hcycles, -⟩ := h
  rw [htrace, hcycles, List.length_append, List.length_reverse, hs, Nat.add_comm]

/-- What the instruction spends is a cycle or more, and twelve at most. -/
theorem exec_spends (i : Instr) (s : State) :
    ∃ t ks, exec i s = .next t ∧ Spends s ks t ∧ 1 ≤ ks.length ∧ ks.length ≤ 12 := by
  obtain ⟨rest, hrow⟩ := cycleSequence_eq_cons i
  have hlen := cycleSequence_length_le i
  obtain ⟨t, hexec, h | ⟨hcond, h⟩⟩ := exec_followsSequence i s
  · exact ⟨t, _, hexec, h, by simp [hrow], by omega⟩
  · exact ⟨t, _, hexec, h, by simp [hrow], by simpa [hcond] using hlen⟩

/-- Settles O17: a HALTED step is one idle cycle, and a RUNNING one an instruction. -/
theorem stepKeepsStateSound : Obligations.StepKeepsStateSound := by
  intro s t hs hstep
  cases hhalt : s.halt with
  | true =>
    obtain rfl : s.idle = t := by simpa [step, stepWith_of_halted _ s hhalt] using hstep
    exact ⟨hs.idle, Nat.le_refl _, by simp, rfl⟩
  | false =>
    rw [step_of_running s hhalt] at hstep
    obtain ⟨_, horun, horacle, hmem⟩ := exec_storesOnly s.nextInstr s
    obtain ⟨_, ks, hrun, hspends, hlow, hhigh⟩ := exec_spends s.nextInstr s
    obtain rfl := Host.Outcome.next.inj (hstep.symm.trans horun)
    obtain rfl := Host.Outcome.next.inj (hstep.symm.trans hrun)
    have hcost := hspends.cycles_eq
    exact ⟨⟨hmem.wf hs.1, hspends.trace_length hs.2⟩, by omega, by omega, horacle⟩

/-! ### PC (R30, R31) -/

/-- PC after the fetches of some bytes, one after the other. -/
theorem toNat_foldl_succ (bytes : List Byte) (pc : Word) :
    (bytes.foldl (fun pc _ => pc + 1) pc).toNat = (pc.toNat + bytes.length) % 65536 := by
  induction bytes generalizing pc with
  | nil => simp [Nat.mod_eq_of_lt pc.isLt]
  | cons _ rest ih =>
    have hsucc : (pc + 1).toNat = (pc.toNat + 1) % 65536 := BitVec.toNat_add pc 1
    rw [List.foldl_cons, ih, hsucc, List.length_cons]
    omega

/-- Outside the control-flow family only the fetches of the instruction's own bytes write PC, one place each. -/
theorem exec_pc_of_not_controlFlow (i : Instr) (s : State) (h : controlFlow i = false) :
    ∃ t, exec i s = .next t ∧ t.pc = (encode i).foldl (fun pc _ => pc + 1) s.pc := by
  cases s
  cases i with
  | bra | bpl | bmi | bvc | bvs | bcc | bcs | bne | beq | bbs0 | bbs1 | bbs2 | bbs3 | bbs4 | bbs5 | bbs6 | bbs7
  | bbc0 | bbc1 | bbc2 | bbc3 | bbc4 | bbc5 | bbc6 | bbc7 | cbneDp | cbneDpX | dbnzDp | dbnzY
  | jmpAbs | jmpAbsXInd | call | pcall | tcall0 | tcall1 | tcall2 | tcall3 | tcall4 | tcall5 | tcall6 | tcall7
  | tcall8 | tcall9 | tcall10 | tcall11 | tcall12 | tcall13 | tcall14 | tcall15 | brk | ret | reti => cases h
  | _ => exact ⟨_, rfl, rfl⟩

/-- Settles O10: one place for each byte fetched, and the bytes are those of the encoding. -/
theorem otherInstructionsAdvancePcByLength : Obligations.OtherInstructionsAdvancePcByLength := by
  intro i s h
  obtain ⟨t, hexec, hpc⟩ := exec_pc_of_not_controlFlow i s h
  exact ⟨t, hexec, by rw [hpc, toNat_foldl_succ]⟩

/-! ### HALT and B (R38, R41) -/

/-- SLEEP and STOP alone write HALT; BRK, and the two instructions that load the status word, alone write B. -/
theorem exec_keeps_halt_b (i : Instr) (s : State) :
    ∃ t, exec i s = .next t ∧ (i ≠ .sleep → i ≠ .stop → t.halt = s.halt) ∧
      (i ≠ .brk → i ≠ .popPsw → i ≠ .reti → t.psw.b = s.psw.b) := by
  cases hbranch : conditionalBranch i with
  | true =>
    obtain ⟨u, taken, d, hexec, hhalt, hpsw, -⟩ := exec_conditionalBranch s hbranch
    exact ⟨_, hexec, fun _ _ => by rw [State.branchIf_halt, hhalt],
      fun _ _ _ => by rw [State.branchIf_psw, hpsw]⟩
  | false =>
    cases s
    cases i with
    | bpl | bmi | bvc | bvs | bcc | bcs | bne | beq | bbs0 | bbs1 | bbs2 | bbs3 | bbs4 | bbs5 | bbs6 | bbs7
    | bbc0 | bbc1 | bbc2 | bbc3 | bbc4 | bbc5 | bbc6 | bbc7 | cbneDp | cbneDpX | dbnzY | dbnzDp => cases hbranch
    | sleep => exact ⟨_, rfl, fun h => absurd rfl h, fun _ _ _ => rfl⟩
    | stop => exact ⟨_, rfl, fun _ h => absurd rfl h, fun _ _ _ => rfl⟩
    | brk => exact ⟨_, rfl, fun _ _ => rfl, fun h => absurd rfl h⟩
    | popPsw => exact ⟨_, rfl, fun _ _ => rfl, fun _ h => absurd rfl h⟩
    | reti => exact ⟨_, rfl, fun _ _ => rfl, fun _ _ h => absurd rfl h⟩
    | incwDp | decwDp => exact ⟨_, rfl, fun _ _ => rfl, fun _ _ _ => State.bumpWord_b _ _ _⟩
    | _ => exact ⟨_, rfl, fun _ _ => rfl, fun _ _ _ => rfl⟩

/-- Settles O11: the two writers of HALT, and every other instruction. -/
theorem onlySleepAndStopEnterHalted : Obligations.OnlySleepAndStopEnterHalted := by
  intro i s
  by_cases hsleep : i = .sleep
  · subst hsleep
    exact ⟨_, rfl, by simp⟩
  by_cases hstop : i = .stop
  · subst hstop
    exact ⟨_, rfl, by simp⟩
  obtain ⟨t, hexec, hhalt, -⟩ := exec_keeps_halt_b i s
  exact ⟨t, hexec, by
    rw [hhalt hsleep hstop, beq_eq_false_iff_ne.mpr hsleep, beq_eq_false_iff_ne.mpr hstop, Bool.or_false,
      Bool.or_false]⟩

/-- Settles O14: BRK, and every other instruction that does not load the status word. -/
theorem onlyBrkSetsBreakFlag : Obligations.OnlyBrkSetsBreakFlag := by
  intro i s hpop hreti
  by_cases hbrk : i = .brk
  · subst hbrk
    exact ⟨_, rfl, by simp [State.takeBreak_eq]⟩
  obtain ⟨t, hexec, -, hb⟩ := exec_keeps_halt_b i s
  exact ⟨t, hexec, by rw [hb hbrk hpop hreti, beq_eq_false_iff_ne.mpr hbrk, Bool.or_false]⟩

/-! ### The windows of the stack and of the direct page (R27 to R29, R33, R44) -/

/-- What an event asks of its address, by the kind of its access; a fetch and an internal cycle ask nothing. -/
def BusEvent.Stays (onRead onDiscard onWrite : Word → Prop) : BusEvent → Prop
  | .fetch _ _ | .idle => True
  | .read a _ => onRead a
  | .discard a _ => onDiscard a
  | .write a _ => onWrite a

/-- The trace grew from `old` by events that stay at addresses of these kinds. -/
def Accesses (onRead onDiscard onWrite : Word → Prop) (old tr : List BusEvent) : Prop :=
  ∃ events : List BusEvent, tr = events.reverse ++ old ∧ ∀ e ∈ events, e.Stays onRead onDiscard onWrite

section Accesses

variable {onRead onDiscard onWrite : Word → Prop} {old tr : List BusEvent}

theorem Accesses.none : Accesses onRead onDiscard onWrite old old := ⟨[], rfl, by simp⟩

theorem Accesses.event {e : BusEvent} (he : e.Stays onRead onDiscard onWrite)
    (h : Accesses onRead onDiscard onWrite old tr) : Accesses onRead onDiscard onWrite old (e :: tr) := by
  obtain ⟨events, rfl, hevents⟩ := h
  refine ⟨events ++ [e], by simp, fun x hx => ?_⟩
  rcases List.mem_append.mp hx with hx | hx
  · exact hevents x hx
  · rw [List.mem_singleton.mp hx]
    exact he

variable {a : Word} {v : Byte}

theorem Accesses.fetch (h : Accesses onRead onDiscard onWrite old tr) :
    Accesses onRead onDiscard onWrite old (.fetch a v :: tr) :=
  .event trivial h
theorem Accesses.idle (h : Accesses onRead onDiscard onWrite old tr) :
    Accesses onRead onDiscard onWrite old (.idle :: tr) :=
  .event trivial h
theorem Accesses.read (ha : onRead a) (h : Accesses onRead onDiscard onWrite old tr) :
    Accesses onRead onDiscard onWrite old (.read a v :: tr) :=
  .event ha h
theorem Accesses.discard (ha : onDiscard a) (h : Accesses onRead onDiscard onWrite old tr) :
    Accesses onRead onDiscard onWrite old (.discard a v :: tr) :=
  .event ha h
theorem Accesses.write (ha : onWrite a) (h : Accesses onRead onDiscard onWrite old tr) :
    Accesses onRead onDiscard onWrite old (.write a v :: tr) :=
  .event ha h

/-- A branch adds internal cycles at most. -/
theorem Accesses.branchIf {u : State} (h : Accesses onRead onDiscard onWrite old u.trace) (taken : Bool) (d : Byte) :
    Accesses onRead onDiscard onWrite old (u.branchIf taken d).trace := by
  cases taken with
  | true => exact .idle (.idle h)
  | false => exact h

end Accesses

/-- An address that some value of SP points at. -/
def StackAddress (a : Word) : Prop := ∃ sp : Byte, a = wordOf 0x01 sp

/-- An address that some offset names in the window that P selects. -/
def State.DirectPageAddress (s : State) (a : Word) : Prop := ∃ o : Byte, a = s.dp o

/-- Any address: an access that a rule says nothing of. -/
def AnyAddress (_ : Word) : Prop := True

/-- The value of a stack address: page 1, at SP, whatever P is (R27). -/
theorem State.toNat_stackAddr (s : State) : s.stackAddr.toNat = 0x100 + s.sp.toNat := toNat_wordOf 0x01 s.sp

/-- The value of a direct-page address (R122). -/
theorem State.toNat_dp (s : State) (o : Byte) : (s.dp o).toNat = 256 * s.psw.p.toNat + o.toNat := by
  rw [State.dp, toNat_wordOf]
  cases s.psw.p <;> rfl

theorem StackAddress.bounds {a : Word} (h : StackAddress a) : 0x100 ≤ a.toNat ∧ a.toNat ≤ 0x1FF := by
  obtain ⟨sp, rfl⟩ := h
  have hvalue : (wordOf 0x01 sp).toNat = 0x100 + sp.toNat := toNat_wordOf 0x01 sp
  omega

theorem State.DirectPageAddress.page {s : State} {a : Word} (h : s.DirectPageAddress a) :
    a.toNat / 256 = s.psw.p.toNat := by
  obtain ⟨o, rfl⟩ := h
  rw [State.toNat_dp]
  omega

/-- A push (R29): one byte of memory, and SP one lower modulo 256. -/
theorem State.push_spec (s : State) (v : Byte) :
    (s.push v).sp.toNat = (s.sp.toNat + 255) % 256 ∧ (s.push v).memAt s.stackAddr = v ∧
      ∀ b, b ≠ s.stackAddr → (s.push v).memAt b = s.memAt b := by
  refine ⟨?_, by rw [State.memAt_push, Function.update_self], fun b hb => ?_⟩
  · have hsub : (s.sp - 1).toNat = (256 - 1 + s.sp.toNat) % 256 := BitVec.toNat_sub s.sp 1
    rw [State.push_eq, hsub, Nat.add_comm]
  · rw [State.memAt_push, Function.update_of_ne hb]

/-- The address a pop reads: page 1, at SP raised modulo 256. -/
theorem wordOf_succ_sp (sp : Byte) : wordOf 0x01 (sp + 1) = BitVec.ofNat 16 (0x100 + (sp.toNat + 1) % 256) := by
  have hvalue : (wordOf 0x01 (sp + 1)).toNat = 0x100 + (sp + 1).toNat := toNat_wordOf 0x01 (sp + 1)
  have hsucc : (sp + 1).toNat = (sp.toNat + 1) % 256 := BitVec.toNat_add sp 1
  apply BitVec.eq_of_toNat_eq
  rw [hvalue, hsucc, BitVec.toNat_ofNat]
  omega

/-- A pop (R29): SP one higher modulo 256, one read at the new SP, and no byte of memory changed. -/
theorem State.pop_spec (s : State) :
    let ea := BitVec.ofNat 16 (0x100 + (s.sp.toNat + 1) % 256)
    s.pop.sp.toNat = (s.sp.toNat + 1) % 256 ∧ s.popValue = s.busAt 0 ea ∧
      s.pop.trace = .read ea s.popValue :: s.trace ∧ s.pop.mem = s.mem := by
  rw [← wordOf_succ_sp]
  exact ⟨BitVec.toNat_add s.sp 1, rfl, rfl, rfl⟩

/-- Pushes, calls and the trap write at stack addresses; a vector is read wherever it lies. -/
def WritesStack (i : Instr) (s : State) : Prop :=
  ∃ t, exec i s = .next t ∧ Accesses AnyAddress AnyAddress StackAddress s.trace t.trace

/-- Pops and returns read at stack addresses. -/
def ReadsStack (i : Instr) (s : State) : Prop :=
  ∃ t, exec i s = .next t ∧ Accesses StackAddress AnyAddress AnyAddress s.trace t.trace

theorem call_writesStack (addr : Word) (s : State) : WritesStack (.call addr) s := by
  cases s
  exact ⟨_, rfl, .write ⟨_, rfl⟩ (.write ⟨_, rfl⟩ (.idle (.idle (.idle (.fetch (.fetch (.fetch .none)))))))⟩

theorem pcall_writesStack (up : Byte) (s : State) : WritesStack (.pcall up) s := by
  cases s
  exact ⟨_, rfl, .write ⟨_, rfl⟩ (.write ⟨_, rfl⟩ (.idle (.idle (.fetch (.fetch .none)))))⟩

theorem push_writesStack (s : State) : ∀ i ∈ ([.pushA, .pushX, .pushY, .pushPsw] : List Instr), WritesStack i s := by
  cases s
  simp only [List.forall_mem_cons, List.not_mem_nil, false_imp_iff, implies_true, and_true]
  refine ⟨?_, ?_, ?_, ?_⟩
  all_goals exact ⟨_, rfl, .write ⟨_, rfl⟩ (.idle (.idle (.fetch .none)))⟩

/-- The trap reads its vector and pushes three bytes (R211). -/
theorem brk_writesStack (s : State) : WritesStack .brk s := by
  cases s
  exact ⟨_, rfl, .write ⟨_, rfl⟩ (.write ⟨_, rfl⟩ (.write ⟨_, rfl⟩
    (.idle (.idle (.read trivial (.read trivial (.fetch .none)))))))⟩

/-- `TCALL n` (R210), for every entry of the table. -/
theorem callTable_accesses (s : State) (op : Byte) (n : Nat) :
    Accesses AnyAddress AnyAddress StackAddress s.trace ((s.fetchOpcode op).callTable n).trace := by
  rw [State.callTable_eq]
  exact .write ⟨_, rfl⟩ (.write ⟨_, rfl⟩ (.idle (.idle (.idle (.read trivial (.read trivial (.fetch .none)))))))

theorem exec_writesStack (i : Instr) (s : State)
    (h : i ∈ ([.pushA, .pushX, .pushY, .pushPsw, .brk, .tcall0, .tcall1, .tcall2, .tcall3, .tcall4, .tcall5, .tcall6,
      .tcall7, .tcall8, .tcall9, .tcall10, .tcall11, .tcall12, .tcall13, .tcall14, .tcall15] : List Instr) ∨
      (∃ addr, i = .call addr) ∨ (∃ up, i = .pcall up)) : WritesStack i s := by
  rcases h with hlisted | ⟨addr, rfl⟩ | ⟨up, rfl⟩
  · simp only [List.mem_cons, List.not_mem_nil, or_false] at hlisted
    rcases hlisted with rfl | rfl | rfl | rfl | rfl | htcall
    iterate 4 exact push_writesStack s _ (by simp)
    · exact brk_writesStack s
    · rcases htcall with rfl | rfl | rfl | rfl | rfl | rfl | rfl | rfl | rfl | rfl | rfl | rfl | rfl | rfl | rfl | rfl
      all_goals exact ⟨_, rfl, callTable_accesses s _ _⟩
  · exact call_writesStack addr s
  · exact pcall_writesStack up s

theorem exec_readsStack (s : State) :
    ∀ i ∈ ([.popA, .popX, .popY, .popPsw, .ret, .reti] : List Instr), ReadsStack i s := by
  cases s
  simp only [List.forall_mem_cons, List.not_mem_nil, false_imp_iff, implies_true, and_true]
  refine ⟨?_, ?_, ?_, ?_, ?_, ?_⟩
  iterate 4 exact ⟨_, rfl, .read ⟨_, rfl⟩ (.idle (.idle (.fetch .none)))⟩
  · exact ⟨_, rfl, .idle (.idle (.read ⟨_, rfl⟩ (.read ⟨_, rfl⟩ (.fetch .none))))⟩
  · exact ⟨_, rfl, .idle (.idle (.read ⟨_, rfl⟩ (.read ⟨_, rfl⟩ (.read ⟨_, rfl⟩ (.fetch .none)))))⟩

/-- The instruction completes, and its data accesses are in the window of P. -/
def StaysInDirectPage (i : Instr) (s : State) : Prop :=
  ∃ t, exec i s = .next t ∧
    Accesses s.DirectPageAddress s.DirectPageAddress s.DirectPageAddress s.trace t.trace

theorem StaysInDirectPage.branch {i : Instr} {s u : State} {taken : Bool} {d : Byte}
    (hexec : exec i s = .next (u.branchIf taken d))
    (h : Accesses s.DirectPageAddress s.DirectPageAddress s.DirectPageAddress s.trace u.trace) :
    StaysInDirectPage i s :=
  ⟨_, hexec, h.branchIf taken d⟩

/-- One case for each order of cycles: within a case the instructions differ in what they do with the bytes. -/
theorem exec_staysInDirectPage (i : Instr) (s : State) (h : directPageOnly i = true) : StaysInDirectPage i s := by
  cases s
  cases i with
  -- A byte is read.
  | movADp | movXDp | movYDp | orADp | andADp | eorADp | cmpADp | adcADp | sbcADp | cmpXDp | cmpYDp =>
    exact ⟨_, rfl, .read ⟨_, rfl⟩ (.fetch (.fetch .none))⟩
  | movADpX | movYDpX | movXDpY | orADpX | andADpX | eorADpX | cmpADpX | adcADpX | sbcADpX =>
    exact ⟨_, rfl, .read ⟨_, rfl⟩ (.idle (.fetch (.fetch .none)))⟩
  | movAIndX | orAIndX | andAIndX | eorAIndX | cmpAIndX | adcAIndX | sbcAIndX =>
    exact ⟨_, rfl, .read ⟨_, rfl⟩ (.idle (.fetch .none))⟩
  | movAIndXInc => exact ⟨_, rfl, .idle (.read ⟨_, rfl⟩ (.idle (.fetch .none)))⟩
  -- A byte is stored.
  | movDpA | movDpX | movDpY => exact ⟨_, rfl, .write ⟨_, rfl⟩ (.discard ⟨_, rfl⟩ (.fetch (.fetch .none)))⟩
  | movDpXA | movDpXY | movDpYX =>
    exact ⟨_, rfl, .write ⟨_, rfl⟩ (.discard ⟨_, rfl⟩ (.idle (.fetch (.fetch .none))))⟩
  | movIndXA => exact ⟨_, rfl, .write ⟨_, rfl⟩ (.discard ⟨_, rfl⟩ (.idle (.fetch .none)))⟩
  | movIndXIncA => exact ⟨_, rfl, .write ⟨_, rfl⟩ (.idle (.idle (.fetch .none)))⟩
  | movDpImm => exact ⟨_, rfl, .write ⟨_, rfl⟩ (.discard ⟨_, rfl⟩ (.fetch (.fetch (.fetch .none))))⟩
  | movDpDp => exact ⟨_, rfl, .write ⟨_, rfl⟩ (.fetch (.read ⟨_, rfl⟩ (.fetch (.fetch .none))))⟩
  -- A word is read, stored or stepped.
  | movwAXDp | addwAXDp | subwAXDp =>
    exact ⟨_, rfl, .read ⟨_, rfl⟩ (.idle (.read ⟨_, rfl⟩ (.fetch (.fetch .none))))⟩
  | cmpwAXDp => exact ⟨_, rfl, .read ⟨_, rfl⟩ (.read ⟨_, rfl⟩ (.fetch (.fetch .none)))⟩
  | movwDpAX =>
    exact ⟨_, rfl, .write ⟨_, rfl⟩ (.write ⟨_, rfl⟩ (.discard ⟨_, rfl⟩ (.fetch (.fetch .none))))⟩
  | incwDp | decwDp =>
    exact ⟨_, rfl, .write ⟨_, rfl⟩ (.read ⟨_, rfl⟩ (.write ⟨_, rfl⟩ (.read ⟨_, rfl⟩ (.fetch (.fetch .none)))))⟩
  -- A byte is read, changed and written, or compared.
  | aslDp | rolDp | lsrDp | rorDp | decDp | incDp
  | set1b0 | set1b1 | set1b2 | set1b3 | set1b4 | set1b5 | set1b6 | set1b7
  | clr1b0 | clr1b1 | clr1b2 | clr1b3 | clr1b4 | clr1b5 | clr1b6 | clr1b7 =>
    exact ⟨_, rfl, .write ⟨_, rfl⟩ (.read ⟨_, rfl⟩ (.fetch (.fetch .none)))⟩
  | aslDpX | rolDpX | lsrDpX | rorDpX | decDpX | incDpX =>
    exact ⟨_, rfl, .write ⟨_, rfl⟩ (.read ⟨_, rfl⟩ (.idle (.fetch (.fetch .none))))⟩
  | orDpDp | andDpDp | eorDpDp | adcDpDp | sbcDpDp =>
    exact ⟨_, rfl, .write ⟨_, rfl⟩ (.read ⟨_, rfl⟩ (.fetch (.read ⟨_, rfl⟩ (.fetch (.fetch .none)))))⟩
  | cmpDpDp => exact ⟨_, rfl, .idle (.read ⟨_, rfl⟩ (.fetch (.read ⟨_, rfl⟩ (.fetch (.fetch .none)))))⟩
  | orDpImm | andDpImm | eorDpImm | adcDpImm | sbcDpImm =>
    exact ⟨_, rfl, .write ⟨_, rfl⟩ (.read ⟨_, rfl⟩ (.fetch (.fetch (.fetch .none))))⟩
  | cmpDpImm => exact ⟨_, rfl, .idle (.read ⟨_, rfl⟩ (.fetch (.fetch (.fetch .none))))⟩
  | orIndXIndY | andIndXIndY | eorIndXIndY | adcIndXIndY | sbcIndXIndY =>
    exact ⟨_, rfl, .write ⟨_, rfl⟩ (.read ⟨_, rfl⟩ (.read ⟨_, rfl⟩ (.idle (.fetch .none))))⟩
  | cmpIndXIndY => exact ⟨_, rfl, .idle (.read ⟨_, rfl⟩ (.read ⟨_, rfl⟩ (.idle (.fetch .none))))⟩
  -- A byte decides a branch.
  | bbs0 | bbs1 | bbs2 | bbs3 | bbs4 | bbs5 | bbs6 | bbs7
  | bbc0 | bbc1 | bbc2 | bbc3 | bbc4 | bbc5 | bbc6 | bbc7 | cbneDp =>
    exact .branch rfl (.idle (.fetch (.read ⟨_, rfl⟩ (.fetch (.fetch .none)))))
  | cbneDpX => exact .branch rfl (.idle (.fetch (.read ⟨_, rfl⟩ (.idle (.fetch (.fetch .none))))))
  | dbnzDp => exact .branch rfl (.fetch (.write ⟨_, rfl⟩ (.read ⟨_, rfl⟩ (.fetch (.fetch .none)))))
  | _ => cases h

/-- Settles O19: the operations one by one, then the events of each instruction, whose addresses are of the kind its
clause names. -/
theorem stackAndDirectPageStayInTheirWindows : Obligations.StackAndDirectPageStayInTheirWindows := by
  refine ⟨State.toNat_stackAddr, State.toNat_dp, State.push_spec, State.pop_spec, ?_, ?_, ?_⟩
  · intro i s h
    obtain ⟨t, hexec, events, htrace, hstays⟩ := exec_writesStack i s h
    exact ⟨t, events, hexec, htrace, fun a v he => StackAddress.bounds (hstays _ he)⟩
  · intro i h s
    obtain ⟨t, hexec, events, htrace, hstays⟩ := exec_readsStack s i h
    exact ⟨t, events, hexec, htrace, fun a v he => StackAddress.bounds (hstays _ he)⟩
  · intro i s h
    obtain ⟨t, hexec, events, htrace, hstays⟩ := exec_staysInDirectPage i s h
    refine ⟨t, events, hexec, htrace, fun a v he => State.DirectPageAddress.page ?_⟩
    rcases he with he | he | he
    all_goals exact hstays _ he

/-! ### The record of the host (R47, R414) -/

/-- An 11-byte record, byte by byte: the version is looked at first, then HALT. -/
theorem State.importRecord_eq (t : State) (version pcLow pcHigh a x y sp psw halt latch0 latch1 : Byte) :
    t.importRecord [version, pcLow, pcHigh, a, x, y, sp, psw, halt, latch0, latch1] =
      if version ≠ recordVersion then .error (.wrongVersion version)
      else if halt = 0x00 ∨ halt = 0x01 then
        .ok { t with
          pc := wordOf pcHigh pcLow, a := a, x := x, y := y, sp := sp, psw := Psw.ofByte psw, halt := halt == 0x01 }
      else .error (.wrongHalt halt) := rfl

/-- A record with the right version and HALT byte puts each byte in its register. -/
theorem State.importRecord_ok (t : State) (pcLow pcHigh a x y sp psw halt latch0 latch1 : Byte)
    (h : halt = 0x00 ∨ halt = 0x01) :
    t.importRecord [0x01, pcLow, pcHigh, a, x, y, sp, psw, halt, latch0, latch1] =
      .ok { t with
        pc := wordOf pcHigh pcLow, a := a, x := x, y := y, sp := sp, psw := Psw.ofByte psw, halt := halt == 0x01 } := by
  rw [State.importRecord_eq, if_neg (by decide : ¬(0x01 : Byte) ≠ recordVersion), if_pos h]

/-- Only an 11-byte record is imported. -/
theorem State.length_of_importRecord_ok {t u : State} {record : List Byte} (h : t.importRecord record = .ok u) :
    record.length = 11 := by
  unfold State.importRecord at h
  split at h
  · rfl
  · cases h

/-- A record of 11 bytes, byte by byte. -/
theorem eq_of_length_eq_eleven {record : List Byte} (h : record.length = 11) :
    ∃ b0 b1 b2 b3 b4 b5 b6 b7 b8 b9 b10, record = [b0, b1, b2, b3, b4, b5, b6, b7, b8, b9, b10] := by
  match record, h with
  | [b0, b1, b2, b3, b4, b5, b6, b7, b8, b9, b10], _ => exact ⟨b0, b1, b2, b3, b4, b5, b6, b7, b8, b9, b10, rfl⟩

/-- Exactly the records of version 0x01 with a HALT byte of 0x00 or 0x01 are imported. -/
theorem State.importRecord_ok_iff (t : State) (record : List Byte) :
    (∃ u, t.importRecord record = .ok u) ↔
      record.length = 11 ∧ record[0]? = some 0x01 ∧ (record[8]? = some 0x00 ∨ record[8]? = some 0x01) := by
  constructor
  · rintro ⟨u, h⟩
    have hlength := State.length_of_importRecord_ok h
    obtain ⟨b0, b1, b2, b3, b4, b5, b6, b7, b8, b9, b10, rfl⟩ := eq_of_length_eq_eleven hlength
    rw [State.importRecord_eq] at h
    split at h
    · cases h
    · split at h
      · exact ⟨rfl, by simp_all [recordVersion], by simp_all⟩
      · cases h
  · rintro ⟨hlength, hversion, hhalt⟩
    obtain ⟨b0, b1, b2, b3, b4, b5, b6, b7, b8, b9, b10, rfl⟩ := eq_of_length_eq_eleven hlength
    obtain rfl : b0 = 0x01 := Option.some.inj hversion
    exact ⟨_, State.importRecord_ok t _ _ _ _ _ _ _ _ _ _ (hhalt.imp Option.some.inj Option.some.inj)⟩

/-- The HALT byte of a record that a state gives is one that an import takes, and stands for HALT. -/
theorem haltByte_spec (h : Bool) :
    ((if h then 0x01 else 0x00 : Byte) = 0x00 ∨ (if h then 0x01 else 0x00 : Byte) = 0x01) ∧
      ((if h then 0x01 else 0x00 : Byte) == 0x01) = h := by
  cases h <;> decide

/-- Settles O57: an exported record is one of the records that an import takes, and PC and PSW come back from their
bytes. -/
theorem exportAndImportRoundTrip : Obligations.ExportAndImportRoundTrip := by
  refine ⟨fun _ => rfl, ?_, ?_, State.importRecord_ok_iff⟩
  · intro t pcLow pcHigh a x y sp psw halt latch0 latch1 h
    exact ⟨_, State.importRecord_ok t pcLow pcHigh a x y sp psw halt latch0 latch1 h, rfl, rfl, rfl, rfl, rfl⟩
  · intro s t
    obtain ⟨hbyte, hhalt⟩ := haltByte_spec s.halt
    refine ⟨_, State.importRecord_ok t _ _ _ _ _ _ _ _ _ _ hbyte, ?_, rfl, rfl, rfl, rfl⟩
    rw [wordOf_high_low, Psw.ofByte_toByte, hhalt]
    rfl

end Sys2Proof.Machine

/-! PROOFS. Memory and the bus (20_memory.md): the bytes a step fetches are the encoding of the instruction it runs, and
its bus events are a true account of the bus. -/

namespace Sys2Proof

/-! ### The encoder undoes the opcode matrix (R70, R81) -/

/-- A word's bytes are the bytes that made it, low byte first (R52). -/
@[simp] theorem wordBytes_wordOf (hi lo : Byte) : wordBytes (wordOf hi lo) = [lo, hi] := by
  rw [wordBytes, wordLow_wordOf, wordHigh_wordOf]

/-- The operand bytes that the encoder gives the instruction that a cell makes of operand bytes 1 and 2. -/
def Slot.operandBytes (b1 b2 : Byte) : Slot → List Byte
  | .implied _ => []
  | .operand _ => [b1]
  | .twoOperands _ | .late _ _ => [b1, b2]
  | .wordOperand _ => wordBytes (wordOf b2 b1)
  | .bitOperand _ => wordBytes (Sys2Proof.bitOperand (bitAddress (wordOf b2 b1)) (bitNumber (wordOf b2 b1)))

/-- They are the bytes the instruction was made of, as many as the cell asks for. -/
theorem Slot.operandBytes_eq_take (slot : Slot) (b1 b2 : Byte) :
    slot.operandBytes b1 b2 = [b1, b2].take slot.operandCount := by
  cases slot <;> simp [Slot.operandBytes, Slot.operandCount]

/-- The cells of a piece of the matrix are those of the opcode bytes from `k` to below `l`, and each makes instructions
that its own opcode byte encodes. -/
def EncodesRange (k l : Nat) (cells : List Slot) : Prop :=
  k + cells.length = l ∧ ∀ b1 b2 : Byte, (cells.zipIdx k).map (fun c => encode (c.1.build b1 b2)) =
    (cells.zipIdx k).map fun c => BitVec.ofNat 8 c.2 :: c.1.operandBytes b1 b2

theorem EncodesRange.append {k l m : Nat} {cells rest : List Slot} (h : EncodesRange k l cells)
    (g : EncodesRange l m rest) : EncodesRange k m (cells ++ rest) := by
  obtain ⟨hlength, hcells⟩ := h
  obtain ⟨glength, gcells⟩ := g
  refine ⟨by rw [List.length_append, ← Nat.add_assoc, hlength, glength], fun b1 b2 => ?_⟩
  rw [List.zipIdx_append, hlength, List.map_append, List.map_append, hcells b1 b2, gcells b1 b2]

/-- The matrix, row by row. -/
theorem encodesRange_opcodeMatrix : EncodesRange 0x00 0x100 opcodeMatrix := by
  have row0 : EncodesRange 0x00 0x10 slotRow0 := ⟨rfl, fun _ _ => rfl⟩
  have row1 : EncodesRange 0x10 0x20 slotRow1 := ⟨rfl, fun _ _ => rfl⟩
  have row2 : EncodesRange 0x20 0x30 slotRow2 := ⟨rfl, fun _ _ => rfl⟩
  have row3 : EncodesRange 0x30 0x40 slotRow3 := ⟨rfl, fun _ _ => rfl⟩
  have row4 : EncodesRange 0x40 0x50 slotRow4 := ⟨rfl, fun _ _ => rfl⟩
  have row5 : EncodesRange 0x50 0x60 slotRow5 := ⟨rfl, fun _ _ => rfl⟩
  have row6 : EncodesRange 0x60 0x70 slotRow6 := ⟨rfl, fun _ _ => rfl⟩
  have row7 : EncodesRange 0x70 0x80 slotRow7 := ⟨rfl, fun _ _ => rfl⟩
  have row8 : EncodesRange 0x80 0x90 slotRow8 := ⟨rfl, fun _ _ => rfl⟩
  have row9 : EncodesRange 0x90 0xA0 slotRow9 := ⟨rfl, fun _ _ => rfl⟩
  have rowA : EncodesRange 0xA0 0xB0 slotRowA := ⟨rfl, fun _ _ => rfl⟩
  have rowB : EncodesRange 0xB0 0xC0 slotRowB := ⟨rfl, fun _ _ => rfl⟩
  have rowC : EncodesRange 0xC0 0xD0 slotRowC := ⟨rfl, fun _ _ => rfl⟩
  have rowD : EncodesRange 0xD0 0xE0 slotRowD := ⟨rfl, fun _ _ => rfl⟩
  have rowE : EncodesRange 0xE0 0xF0 slotRowE := ⟨rfl, fun _ _ => rfl⟩
  have rowF : EncodesRange 0xF0 0x100 slotRowF := ⟨rfl, fun _ _ => rfl⟩
  exact row0 |>.append row1 |>.append row2 |>.append row3 |>.append row4
    |>.append row5 |>.append row6 |>.append row7 |>.append row8 |>.append row9 |>.append rowA |>.append rowB
    |>.append rowC |>.append rowD |>.append rowE |>.append rowF

/-- An instruction is encoded as the bytes it was decoded from. -/
theorem encode_decodeBytes (op b1 b2 : Byte) :
    encode (decodeBytes op b1 b2) = op :: [b1, b2].take (slotOf op).operandCount := by
  obtain ⟨-, hcells⟩ := encodesRange_opcodeMatrix
  have hop : op.toNat < ((opcodeMatrix.zipIdx 0).map fun c => encode (c.1.build b1 b2)).length := by
    rw [List.length_map, List.length_zipIdx, opcodeMatrix_length]
    exact op.isLt
  rw [← Slot.operandBytes_eq_take]
  simpa [decodeBytes, slotOf] using List.getElem_of_eq (hcells b1 b2) hop

namespace Machine

/-! ### The bytes a step fetches (R62, R381) -/

/-- The bytes that the bus answers at the cycles at which the next step fetches. -/
def State.fetchedBytes (s : State) : List Byte :=
  s.opcodeByte :: [s.operandByte1, s.operandByte2].take (slotOf s.opcodeByte).operandCount

/-- They encode the instruction that the step runs. -/
theorem State.encode_nextInstr (s : State) : encode s.nextInstr = s.fetchedBytes :=
  encode_decodeBytes _ _ _

section FetchedBytes

variable {s : State} {op b1 b2 : Byte} {rest : List Byte}

theorem eq_opcodeByte (h : op :: rest = s.fetchedBytes) : op = s.bus s.pc := (List.cons.inj h).1

theorem eq_operandByte1 (h : op :: b1 :: rest = s.fetchedBytes) : b1 = (s.fetchOpcode op).bus (s.pc + 1) := by
  obtain ⟨rfl, htake⟩ := List.cons.inj h
  cases hcount : (slotOf s.opcodeByte).operandCount with
  | zero => simp [hcount] at htake
  | succ n =>
    rw [hcount, List.take_succ_cons] at htake
    exact (List.cons.inj htake).1

/-- The state in which operand byte 2 is fetched is the one of the cell's format. -/
theorem eq_operandByte2 (h : op :: b1 :: b2 :: rest = s.fetchedBytes) :
    b2 = ((s.fetch2 op b1).beforeOperand2 (slotOf op) b1).bus
      ((s.fetch2 op b1).beforeOperand2 (slotOf op) b1).pc := by
  obtain rfl : b1 = s.operandByte1 := by rw [eq_operandByte1 h, eq_opcodeByte h]; rfl
  obtain ⟨rfl, htake⟩ := List.cons.inj h
  match hcount : (slotOf s.opcodeByte).operandCount with
  | 0 | 1 => simp [hcount] at htake
  | n + 2 =>
    rw [hcount, List.take_succ_cons, List.take_succ_cons] at htake
    exact (List.cons.inj (List.cons.inj htake).2).1

end FetchedBytes

/-! ### An account of the bus, one cycle after the other (R51, R57, R59) -/

theorem fetchesOf_append (first rest : List BusEvent) :
    fetchesOf (first ++ rest) = fetchesOf first ++ fetchesOf rest := by
  induction first with
  | nil => rfl
  | cons e first ih => cases e <;> simp [fetchesOf, ih]

/-- Since `s` the events of the trace `tr` are a true account of the bus, with the cycle counter now at `n` and memory
now `m`, and `bytes` were fetched from the addresses from the PC of `s` on. -/
def Accounted (s : State) (bytes : List Byte) (n : Nat) (m : Memory) (tr : List BusEvent) : Prop :=
  ∃ events : List BusEvent, tr = events.reverse ++ s.trace ∧ n = s.cycles + events.length ∧
    fetchesOf events = bytesAt s.pc bytes ∧ Accounts s.oracle s.cycles s.mem events m

section Accounted

variable {s : State} {bytes rest : List Byte} {n : Nat} {m : Memory} {tr : List BusEvent} {a : Word}
  {v op b1 b2 : Byte}

theorem Accounted.start (s : State) : Accounted s [] s.cycles s.mem s.trace := ⟨[], rfl, rfl, rfl, rfl⟩

/-- One cycle more, which may fetch a byte or change memory. -/
theorem Accounted.event {e : BusEvent} {m' : Memory} {bytes' : List Byte} (he : Accounts s.oracle n m [e] m')
    (hbytes : bytesAt s.pc bytes' = bytesAt s.pc bytes ++ fetchesOf [e]) (h : Accounted s bytes n m tr) :
    Accounted s bytes' (n + 1) m' (e :: tr) := by
  obtain ⟨events, rfl, rfl, hfetches, haccounts⟩ := h
  refine ⟨events ++ [e], by simp, by simp [Nat.add_assoc], ?_, (accounts_append ..).mpr ⟨m, haccounts, he⟩⟩
  rw [fetchesOf_append, hfetches, hbytes]

/-- A read, a discarded read and a write, which fetch nothing, and an internal cycle. -/
theorem Accounted.read (h : Accounted s bytes n m tr) :
    Accounted s bytes (n + 1) m (.read a (busAnswer s.oracle n m a) :: tr) :=
  h.event ⟨rfl, rfl⟩ (List.append_nil _).symm
theorem Accounted.discard (h : Accounted s bytes n m tr) :
    Accounted s bytes (n + 1) m (.discard a (busAnswer s.oracle n m a) :: tr) :=
  h.event ⟨rfl, rfl⟩ (List.append_nil _).symm
theorem Accounted.write (h : Accounted s bytes n m tr) :
    Accounted s bytes (n + 1) (memStore m a.toNat v) (.write a v :: tr) :=
  h.event (e := .write a v) rfl (List.append_nil _).symm
theorem Accounted.idle (h : Accounted s bytes n m tr) : Accounted s bytes (n + 1) m (.idle :: tr) :=
  h.event (e := .idle) rfl (List.append_nil _).symm

/-- Several internal cycles. -/
theorem Accounted.idles (k : Nat) (h : Accounted s bytes n m tr) :
    Accounted s bytes (n + k) m (List.replicate k .idle ++ tr) := by
  induction k with
  | zero => exact h
  | succ k ih => exact ih.idle

/-- A branch adds internal cycles at most. -/
theorem Accounted.branchIf {u : State} (h : Accounted s bytes u.cycles u.mem u.trace) (taken : Bool) (d : Byte) :
    Accounted s bytes (u.branchIf taken d).cycles (u.branchIf taken d).mem (u.branchIf taken d).trace := by
  cases taken with
  | true => exact h.idle.idle
  | false => exact h

/-! #### The fetches: the byte fetched has to be the bus's answer -/

theorem accounted_opcode (h : op :: rest = s.fetchedBytes) :
    Accounted s [op] (s.cycles + 1) s.mem (.fetch s.pc op :: s.trace) :=
  (Accounted.start s).event ⟨eq_opcodeByte h, rfl⟩ rfl

theorem accounted_operand1 (h : op :: b1 :: rest = s.fetchedBytes) :
    Accounted s [op, b1] (s.cycles + 2) s.mem (.fetch (s.pc + 1) b1 :: .fetch s.pc op :: s.trace) :=
  (accounted_opcode h).event ⟨eq_operandByte1 h, rfl⟩ rfl

/-- Operand byte 2, fetched at once or after a data access. -/
theorem Accounted.operand2 (h : Accounted s [op, b1] n m tr) (hb : b2 = busAnswer s.oracle n m (s.pc + 1 + 1)) :
    Accounted s [op, b1, b2] (n + 1) m (.fetch (s.pc + 1 + 1) b2 :: tr) :=
  h.event ⟨hb, rfl⟩ rfl

/-- The three fetches of an instruction whose cell has no data access before the last one. -/
theorem accounted_operands (h : op :: b1 :: b2 :: rest = s.fetchedBytes)
    (hslot : (s.fetch2 op b1).beforeOperand2 (slotOf op) b1 = s.fetch2 op b1) :
    Accounted s [op, b1, b2] (s.cycles + 3) s.mem
      (.fetch (s.pc + 1 + 1) b2 :: .fetch (s.pc + 1) b1 :: .fetch s.pc op :: s.trace) := by
  have hb := eq_operandByte2 h
  rw [hslot] at hb
  exact (accounted_operand1 h).operand2 hb

end Accounted

/-! ### Every instruction gives a true account of the bus -/

/-- The instruction completes; it fetches its own encoding, and its bus events are a true account of the bus. -/
def GivesAccount (i : Instr) (s : State) : Prop :=
  ∃ t, exec i s = .next t ∧ Accounted s (encode i) t.cycles t.mem t.trace

section

variable {i : Instr} {s t u : State} {bytes : List Byte} {n : Nat} {m : Memory} {tr : List BusEvent}

/-- An account says which trace, memory and cycle counter the instruction leaves. -/
theorem GivesAccount.of (h : Accounted s bytes n m tr) (hexec : exec i s = .next t) (hbytes : encode i = bytes)
    (hleaves : t.trace = tr ∧ t.mem = m ∧ t.cycles = n) : GivesAccount i s := by
  obtain ⟨rfl, rfl, rfl⟩ := hleaves
  exact ⟨t, hexec, hbytes ▸ h⟩

/-- A branch is accounted for where the cycles up to it are. -/
theorem GivesAccount.branch {taken : Bool} {d : Byte} (h : Accounted s bytes n m tr)
    (hexec : exec i s = .next (u.branchIf taken d)) (hbytes : encode i = bytes)
    (hleaves : u.trace = tr ∧ u.mem = m ∧ u.cycles = n) : GivesAccount i s := by
  obtain ⟨rfl, rfl, rfl⟩ := hleaves
  exact ⟨_, hexec, hbytes ▸ h.branchIf taken d⟩

end

/-- INCW and DECW, whatever the step (R319, R320): the low byte is written before the high byte is read. -/
theorem bumpWord_givesAccount {i : Instr} {s : State} {op o : Byte} {delta : Word} (h : [op, o] = s.fetchedBytes)
    (hexec : exec i s = .next ((s.fetch2 op o).bumpWord o delta)) (hbytes : encode i = [op, o]) :
    GivesAccount i s := by
  cases s
  exact .of (.write (.read (.write (.read (accounted_operand1 h))))) hexec hbytes ⟨rfl, rfl, rfl⟩

/-- Where the bus answers the instruction's own bytes at the cycles of its fetches, the account is a true one. One case
for each order of cycles, newest first; the state is taken apart into its fields, so that each cycle of the next one
computes. -/
theorem exec_givesAccount (i : Instr) (s : State) (h : encode i = s.fetchedBytes) : GivesAccount i s := by
  cases s
  cases i with
  -- A byte is given or read.
  | movAImm | movXImm | movYImm | orAImm | andAImm | eorAImm | cmpAImm | adcAImm | sbcAImm | cmpXImm | cmpYImm =>
    exact .of (accounted_operand1 h) rfl rfl ⟨rfl, rfl, rfl⟩
  | movADp | movXDp | movYDp | orADp | andADp | eorADp | cmpADp | adcADp | sbcADp | cmpXDp | cmpYDp =>
    exact .of (.read (accounted_operand1 h)) rfl rfl ⟨rfl, rfl, rfl⟩
  | movADpX | movYDpX | movXDpY | orADpX | andADpX | eorADpX | cmpADpX | adcADpX | sbcADpX =>
    exact .of (.read (.idle (accounted_operand1 h))) rfl rfl ⟨rfl, rfl, rfl⟩
  | movAAbs | movXAbs | movYAbs | orAAbs | andAAbs | eorAAbs | cmpAAbs | adcAAbs | sbcAAbs | cmpXAbs | cmpYAbs
  | mov1CBit | and1CBit | and1CNotBit =>
    exact .of (.read (accounted_operands h rfl)) rfl rfl ⟨rfl, rfl, rfl⟩
  | movAAbsX | orAAbsX | andAAbsX | eorAAbsX | cmpAAbsX | adcAAbsX | sbcAAbsX
  | movAAbsY | orAAbsY | andAAbsY | eorAAbsY | cmpAAbsY | adcAAbsY | sbcAAbsY =>
    exact .of (.read (.idle (accounted_operands h rfl))) rfl rfl ⟨rfl, rfl, rfl⟩
  | movAIdxInd | orAIdxInd | andAIdxInd | eorAIdxInd | cmpAIdxInd | adcAIdxInd | sbcAIdxInd
  | movAIndIdx | orAIndIdx | andAIndIdx | eorAIndIdx | cmpAIndIdx | adcAIndIdx | sbcAIndIdx =>
    exact .of (.read (.read (.read (.idle (accounted_operand1 h))))) rfl rfl ⟨rfl, rfl, rfl⟩
  | movAIndX | orAIndX | andAIndX | eorAIndX | cmpAIndX | adcAIndX | sbcAIndX =>
    exact .of (.read (.idle (accounted_opcode h))) rfl rfl ⟨rfl, rfl, rfl⟩
  | movAIndXInc => exact .of (.idle (.read (.idle (accounted_opcode h)))) rfl rfl ⟨rfl, rfl, rfl⟩
  | or1CBit | or1CNotBit | eor1CBit => exact .of (.idle (.read (accounted_operands h rfl))) rfl rfl ⟨rfl, rfl, rfl⟩
  -- A byte is stored.
  | movDpA | movDpX | movDpY => exact .of (.write (.discard (accounted_operand1 h))) rfl rfl ⟨rfl, rfl, rfl⟩
  | movDpXA | movDpXY | movDpYX =>
    exact .of (.write (.discard (.idle (accounted_operand1 h)))) rfl rfl ⟨rfl, rfl, rfl⟩
  | movAbsA | movAbsX | movAbsY | movDpImm =>
    exact .of (.write (.discard (accounted_operands h rfl))) rfl rfl ⟨rfl, rfl, rfl⟩
  | movAbsXA | movAbsYA => exact .of (.write (.discard (.idle (accounted_operands h rfl)))) rfl rfl ⟨rfl, rfl, rfl⟩
  | movIdxIndA => exact .of (.write (.discard (.read (.read (.idle (accounted_operand1 h)))))) rfl rfl ⟨rfl, rfl, rfl⟩
  | movIndIdxA => exact .of (.write (.discard (.idle (.read (.read (accounted_operand1 h)))))) rfl rfl ⟨rfl, rfl, rfl⟩
  | movIndXA => exact .of (.write (.discard (.idle (accounted_opcode h)))) rfl rfl ⟨rfl, rfl, rfl⟩
  | movIndXIncA => exact .of (.write (.idles 2 (accounted_opcode h))) rfl rfl ⟨rfl, rfl, rfl⟩
  | movDpDp =>
    exact .of (.write (.operand2 (.read (accounted_operand1 h)) (eq_operandByte2 h))) rfl rfl ⟨rfl, rfl, rfl⟩
  -- A word is read, stored or stepped.
  | movwAXDp | addwAXDp | subwAXDp => exact .of (.read (.idle (.read (accounted_operand1 h)))) rfl rfl ⟨rfl, rfl, rfl⟩
  | cmpwAXDp => exact .of (.read (.read (accounted_operand1 h))) rfl rfl ⟨rfl, rfl, rfl⟩
  | movwDpAX => exact .of (.write (.write (.discard (accounted_operand1 h)))) rfl rfl ⟨rfl, rfl, rfl⟩
  | incwDp | decwDp => exact bumpWord_givesAccount h rfl rfl
  -- A byte is read, changed and written, or compared.
  | aslDp | rolDp | lsrDp | rorDp | decDp | incDp
  | set1b0 | set1b1 | set1b2 | set1b3 | set1b4 | set1b5 | set1b6 | set1b7
  | clr1b0 | clr1b1 | clr1b2 | clr1b3 | clr1b4 | clr1b5 | clr1b6 | clr1b7 =>
    exact .of (.write (.read (accounted_operand1 h))) rfl rfl ⟨rfl, rfl, rfl⟩
  | aslDpX | rolDpX | lsrDpX | rorDpX | decDpX | incDpX =>
    exact .of (.write (.read (.idle (accounted_operand1 h)))) rfl rfl ⟨rfl, rfl, rfl⟩
  | aslAbs | rolAbs | lsrAbs | rorAbs | decAbs | incAbs | not1Bit
  | orDpImm | andDpImm | eorDpImm | adcDpImm | sbcDpImm =>
    exact .of (.write (.read (accounted_operands h rfl))) rfl rfl ⟨rfl, rfl, rfl⟩
  | mov1BitC => exact .of (.write (.idle (.read (accounted_operands h rfl)))) rfl rfl ⟨rfl, rfl, rfl⟩
  | tset1Abs | tclr1Abs => exact .of (.write (.discard (.read (accounted_operands h rfl)))) rfl rfl ⟨rfl, rfl, rfl⟩
  | orDpDp | andDpDp | eorDpDp | adcDpDp | sbcDpDp =>
    exact .of (.write (.read (.operand2 (.read (accounted_operand1 h)) (eq_operandByte2 h)))) rfl rfl ⟨rfl, rfl, rfl⟩
  | orIndXIndY | andIndXIndY | eorIndXIndY | adcIndXIndY | sbcIndXIndY =>
    exact .of (.write (.read (.read (.idle (accounted_opcode h))))) rfl rfl ⟨rfl, rfl, rfl⟩
  | cmpDpDp =>
    exact .of (.idle (.read (.operand2 (.read (accounted_operand1 h)) (eq_operandByte2 h)))) rfl rfl ⟨rfl, rfl, rfl⟩
  | cmpDpImm => exact .of (.idle (.read (accounted_operands h rfl))) rfl rfl ⟨rfl, rfl, rfl⟩
  | cmpIndXIndY => exact .of (.idle (.read (.read (.idle (accounted_opcode h))))) rfl rfl ⟨rfl, rfl, rfl⟩
  -- Registers and flags alone.
  | nop | movAX | movAY | movXA | movYA | movXSP | movSPX | clrc | setc | clrp | setp | clrv
  | aslA | rolA | lsrA | rorA | decA | incA | decX | incX | decY | incY =>
    exact .of (.idle (accounted_opcode h)) rfl rfl ⟨rfl, rfl, rfl⟩
  | sleep | stop | daa | das | notc | ei | di => exact .of (.idles 2 (accounted_opcode h)) rfl rfl ⟨rfl, rfl, rfl⟩
  | xcn => exact .of (.idles 4 (accounted_opcode h)) rfl rfl ⟨rfl, rfl, rfl⟩
  | mulAX => exact .of (.idles 8 (accounted_opcode h)) rfl rfl ⟨rfl, rfl, rfl⟩
  | divAXY => exact .of (.idles 11 (accounted_opcode h)) rfl rfl ⟨rfl, rfl, rfl⟩
  -- The stack.
  | pushA | pushX | pushY | pushPsw => exact .of (.write (.idles 2 (accounted_opcode h))) rfl rfl ⟨rfl, rfl, rfl⟩
  | popA | popX | popY | popPsw => exact .of (.read (.idles 2 (accounted_opcode h))) rfl rfl ⟨rfl, rfl, rfl⟩
  -- Jumps, calls, the trap and the returns.
  | bra => exact .branch (accounted_operand1 h) rfl rfl ⟨rfl, rfl, rfl⟩
  | jmpAbs => exact .of (accounted_operands h rfl) rfl rfl ⟨rfl, rfl, rfl⟩
  | jmpAbsXInd => exact .of (.read (.read (.idle (accounted_operands h rfl)))) rfl rfl ⟨rfl, rfl, rfl⟩
  | call => exact .of (.write (.write (.idles 3 (accounted_operands h rfl)))) rfl rfl ⟨rfl, rfl, rfl⟩
  | pcall => exact .of (.write (.write (.idles 2 (accounted_operand1 h)))) rfl rfl ⟨rfl, rfl, rfl⟩
  | tcall0 | tcall1 | tcall2 | tcall3 | tcall4 | tcall5 | tcall6 | tcall7
  | tcall8 | tcall9 | tcall10 | tcall11 | tcall12 | tcall13 | tcall14 | tcall15 =>
    exact .of (.write (.write (.idles 3 (.read (.read (accounted_opcode h)))))) rfl rfl ⟨rfl, rfl, rfl⟩
  | brk =>
    exact .of (.write (.write (.write (.idles 2 (.read (.read (accounted_opcode h))))))) rfl rfl ⟨rfl, rfl, rfl⟩
  | ret => exact .of (.idles 2 (.read (.read (accounted_opcode h)))) rfl rfl ⟨rfl, rfl, rfl⟩
  | reti => exact .of (.idles 2 (.read (.read (.read (accounted_opcode h))))) rfl rfl ⟨rfl, rfl, rfl⟩
  -- Conditional branches, up to the point where they are taken or not.
  | bpl | bmi | bvc | bvs | bcc | bcs | bne | beq => exact .branch (accounted_operand1 h) rfl rfl ⟨rfl, rfl, rfl⟩
  | bbs0 | bbs1 | bbs2 | bbs3 | bbs4 | bbs5 | bbs6 | bbs7
  | bbc0 | bbc1 | bbc2 | bbc3 | bbc4 | bbc5 | bbc6 | bbc7 | cbneDp =>
    exact .branch (.idle (.operand2 (.read (accounted_operand1 h)) (eq_operandByte2 h))) rfl rfl ⟨rfl, rfl, rfl⟩
  | cbneDpX =>
    exact .branch (.idle (.operand2 (.read (.idle (accounted_operand1 h))) (eq_operandByte2 h))) rfl rfl ⟨rfl, rfl, rfl⟩
  | dbnzDp =>
    exact .branch (.operand2 (.write (.read (accounted_operand1 h))) (eq_operandByte2 h)) rfl rfl ⟨rfl, rfl, rfl⟩
  | dbnzY => exact .branch (.idle (.idle (accounted_operand1 h))) rfl rfl ⟨rfl, rfl, rfl⟩

/-- Settles O6: a RUNNING step runs the instruction whose encoding the bus answers, and that instruction's account is a
true one; no instruction touches the bus's answers to come. -/
theorem stepAccountsForEveryBusCycle : Obligations.StepAccountsForEveryBusCycle := by
  intro s hrunning
  obtain ⟨t, hexec, events, htrace, hcycles, hfetches, haccounts⟩ :=
    exec_givesAccount s.nextInstr s s.encode_nextInstr
  obtain ⟨_, hexec', horacle, -⟩ := exec_storesOnly s.nextInstr s
  obtain rfl := Host.Outcome.next.inj (hexec.symm.trans hexec')
  exact ⟨t, events, (step_of_running s hrunning).trans hexec, htrace, hcycles, hfetches, haccounts, horacle⟩

end Machine

end Sys2Proof

/-! PROOFS. The encoding (30_encoding.md): the decoder and the encoder are inverse to each other between the lists of
bytes that hold an instruction and the well-formed instructions, and only a list that is too short holds none. -/

namespace Sys2Proof

/-! ### What the decoder does with the bytes after an opcode byte (R70) -/

/-- No cell asks for more than two operand bytes (R70). -/
theorem Slot.operandCount_le (slot : Slot) : slot.operandCount ≤ 2 := by
  cases slot <;> simp [Slot.operandCount]

/-- The decoder takes the operand bytes that the cell asks for, makes its instruction of them and leaves the rest;
bytes 1 and 2 that the format does not have do not enter into the instruction. -/
theorem decode_operands (op b1 b2 : Byte) (rest : List Byte) :
    decode (op :: ([b1, b2].take (slotOf op).operandCount ++ rest)) = .ok (decodeBytes op b1 b2, rest) := by
  cases hslot : slotOf op <;> simp [decode, decodeBytes, hslot, Slot.operandCount, Slot.build]

/-- A list that ends before the operand bytes its opcode asks for holds no instruction. -/
theorem decode_ne_ok_of_short {op : Byte} {rest : List Byte} (h : rest.length < (slotOf op).operandCount)
    (p : Instr × List Byte) : decode (op :: rest) ≠ .ok p := by
  have hle := (slotOf op).operandCount_le
  match hcount : (slotOf op).operandCount, rest with
  | 0, _ => simp [hcount] at h
  | 1, [] | 2, [] | 2, [_] => simp [decode, hcount]
  | 1, _ :: _ | 2, _ :: _ :: _ => simp [hcount] at h
  | _ + 3, _ => omega

/-- A list that is long enough starts with the operand bytes its opcode asks for. -/
theorem exists_operands {op : Byte} {rest : List Byte} (h : (slotOf op).operandCount ≤ rest.length) :
    ∃ (b1 b2 : Byte) (left : List Byte), rest = [b1, b2].take (slotOf op).operandCount ++ left := by
  have hle := (slotOf op).operandCount_le
  match hcount : (slotOf op).operandCount, rest with
  | 0, rest => exact ⟨0, 0, rest, rfl⟩
  | 1, b1 :: left => exact ⟨b1, 0, left, rfl⟩
  | 2, b1 :: b2 :: left => exact ⟨b1, b2, left, rfl⟩
  | 1, [] | 2, [] | 2, [_] => simp [hcount] at h
  | _ + 3, _ => omega

/-- The encoding of an instruction that a cell makes decodes to it. -/
theorem decode_encode_decodeBytes (op b1 b2 : Byte) (rest : List Byte) :
    decode (encode (decodeBytes op b1 b2) ++ rest) = .ok (decodeBytes op b1 b2, rest) := by
  rw [encode_decodeBytes]
  exact decode_operands op b1 b2 rest

/-- What the decoder can answer: an instruction of some cell, read from the bytes of its own encoding. -/
theorem exists_decodeBytes_of_decode {bytes rest : List Byte} {i : Instr} (h : decode bytes = .ok (i, rest)) :
    ∃ op b1 b2 : Byte, i = decodeBytes op b1 b2 ∧ encode i ++ rest = bytes := by
  match bytes with
  | [] => cases h
  | op :: tail =>
    have hlong : (slotOf op).operandCount ≤ tail.length := not_lt.mp fun hshort => decode_ne_ok_of_short hshort _ h
    obtain ⟨b1, b2, left, rfl⟩ := exists_operands hlong
    obtain ⟨rfl, rfl⟩ := Prod.mk.inj (Except.ok.inj ((decode_operands op b1 b2 left).symm.trans h))
    exact ⟨op, b1, b2, rfl, by rw [encode_decodeBytes]; rfl⟩

/-! ### The well-formed instructions are those that the cells make (R78, R81) -/

/-- Only the address of a bit operand could be wrong: the opcode byte of the encoding tells the cell, and the cell took
the address out of a word. -/
theorem wellFormed_decodeBytes (op b1 b2 : Byte) : (decodeBytes op b1 b2).WellFormed := by
  have hencode := encode_decodeBytes op b1 b2
  generalize hi : decodeBytes op b1 b2 = i at hencode ⊢
  cases i with
  | or1CBit m b | or1CNotBit m b | and1CBit m b | and1CNotBit m b | eor1CBit m b | mov1CBit m b | mov1BitC m b
  | not1Bit m b =>
    obtain ⟨rfl, -⟩ := List.cons.inj hencode
    injection hi with hm
    exact hm ▸ bitAddressOk_bitAddress _
  | _ => rfl

/-- A cell with a word operand makes its instruction of any word, from the word's two bytes (R74). -/
theorem decodeBytes_wordLow_wordHigh {op : Byte} {f : Word → Instr} (h : slotOf op = .wordOperand f) (w : Word) :
    decodeBytes op (wordLow w) (wordHigh w) = f w := by
  rw [decodeBytes, h, Slot.build, wordOf_high_low]

/-- A cell with a bit operand makes its instruction of any bit number and any address of 13 bits (R78). -/
theorem decodeBytes_bitOperand {op : Byte} {f : Word → BitVec 3 → Instr} (h : slotOf op = .bitOperand f) {m : Word}
    (hm : bitAddressOk m = true) (b : BitVec 3) :
    decodeBytes op (wordLow (bitOperand m b)) (wordHigh (bitOperand m b)) = f m b := by
  rw [decodeBytes, h, Slot.build, wordOf_high_low, bitAddress_bitOperand b hm, bitNumber_bitOperand]

/-- A well-formed instruction is made by the cell of its opcode byte, of the operand bytes in its encoding; where the
encoding has no more bytes, any will do. -/
theorem decodeBytes_encode {i : Instr} (h : i.WellFormed) :
    decodeBytes ((encode i).getD 0 0) ((encode i).getD 1 0) ((encode i).getD 2 0) = i := by
  cases i with
  -- A word operand, low byte first.
  | orAAbs w | orAAbsX w | orAAbsY w | andAAbs w | andAAbsX w | andAAbsY w | eorAAbs w | eorAAbsX w | eorAAbsY w
  | cmpAAbs w | cmpAAbsX w | cmpAAbsY w | adcAAbs w | adcAAbsX w | adcAAbsY w | sbcAAbs w | sbcAAbsX w | sbcAAbsY w
  | movAAbs w | movAAbsX w | movAAbsY w | movAbsA w | movAbsXA w | movAbsYA w | movAbsX w | movAbsY w | movXAbs w
  | movYAbs w | cmpXAbs w | cmpYAbs w | aslAbs w | rolAbs w | lsrAbs w | rorAbs w | decAbs w | incAbs w | tset1Abs w
  | tclr1Abs w | jmpAbs w | jmpAbsXInd w | call w => exact decodeBytes_wordLow_wordHigh rfl w
  -- A bit operand, whose address well-formedness keeps to 13 bits.
  | or1CBit m b | or1CNotBit m b | and1CBit m b | and1CNotBit m b | eor1CBit m b | mov1CBit m b | mov1BitC m b
  | not1Bit m b => exact decodeBytes_bitOperand rfl h b
  -- No operand, or operand bytes that stand in the encoding as they are.
  | _ => rfl

/-! ### The obligations -/

/-- Settles O1: a well-formed instruction is made by its cell, and what a cell makes decodes from its encoding. -/
theorem decodeOfEncodeIsInstruction : Obligations.DecodeOfEncodeIsInstruction := by
  intro i rest h
  have hdecode := decode_encode_decodeBytes ((encode i).getD 0 0) ((encode i).getD 1 0) ((encode i).getD 2 0) rest
  rwa [decodeBytes_encode h] at hdecode

/-- Settles O2: what the decoder answers is made by a cell, so it is well formed and encoded as the bytes it was read
from. -/
theorem encodeOfDecodeIsBytes : Obligations.EncodeOfDecodeIsBytes := by
  intro bytes i rest h
  obtain ⟨op, b1, b2, rfl, hbytes⟩ := exists_decodeBytes_of_decode h
  exact ⟨wellFormed_decodeBytes op b1 b2, hbytes⟩

/-- Settles O3: three bytes hold the operand bytes of every cell, and a list that is long enough decodes. -/
theorem everyByteStringDecodes : Obligations.EveryByteStringDecodes := by
  refine ⟨fun op b1 b2 rest => ?_, fun bytes e herror => ?_⟩
  · have hlength : ([b1, b2].take (slotOf op).operandCount).length = (slotOf op).operandCount :=
      List.length_take_of_le (slotOf op).operandCount_le
    have hdecode := decode_operands op b1 b2 ([b1, b2].drop (slotOf op).operandCount ++ rest)
    rw [← List.append_assoc, List.take_append_drop] at hdecode
    exact ⟨_, _, _, hdecode, encode_decodeBytes op b1 b2, hlength.trans_le (slotOf op).operandCount_le, hlength⟩
  · match bytes with
    | [] => exact .inl rfl
    | op :: tail =>
      refine .inr ⟨op, tail, rfl, not_le.mp fun hlong => ?_⟩
      obtain ⟨b1, b2, left, rfl⟩ := exists_operands hlong
      cases (decode_operands op b1 b2 left).symm.trans herror

/-- Settles O4, one encoding of each format at a time. -/
theorem sampleEncodingsDecode : Obligations.SampleEncodingsDecode := by
  have dpDp : decode [0xFA, 0x10, 0x20] = .ok (.movDpDp 0x20 0x10, []) := by decide
  have dpImm : decode [0x8F, 0x55, 0x20] = .ok (.movDpImm 0x20 0x55, []) := by decide
  have bit : decode [0xAA, 0x34, 0xB2] = .ok (.mov1CBit 0x1234 5, []) := by decide
  have dpRel : decode [0xE3, 0x20, 0xF5] = .ok (.bbs7 0x20 0xF5, []) := by decide
  have call : decode [0x91] = .ok (.tcall9, []) := by decide
  exact ⟨dpDp, dpImm, bit, dpRel, call⟩

end Sys2Proof

/-! PROOFS. The ALU primitives (40_algorithms.md): the result and every flag of each, read as arithmetic. -/

namespace Sys2Proof.Machine

/-! ### The sign and the zero of a result (R91 to R93) -/

/-- The top bit of a bit vector is a bound on its value. -/
theorem getLsbD_top_iff {k : Nat} (v : BitVec (k + 1)) : v.getLsbD k = true ↔ 2 ^ k ≤ v.toNat := by
  have hmsb : v.getLsbD k = v.msb := v.msb_eq_getLsbD_last.symm
  rw [hmsb, BitVec.msb_eq_decide, decide_eq_true_eq, Nat.add_sub_cancel]

theorem eq_zero_iff_toNat {k : Nat} (v : BitVec k) : v = 0 ↔ v.toNat = 0 := by
  rw [← BitVec.toNat_inj, BitVec.ofNat_eq_ofNat, BitVec.toNat_ofNat, Nat.zero_mod]

theorem Psw.setNZ8_n_iff (p : Psw) (v : Byte) : (p.setNZ8 v).n = true ↔ 128 ≤ v.toNat := getLsbD_top_iff v

theorem Psw.setNZ8_z_iff (p : Psw) (v : Byte) : (p.setNZ8 v).z = true ↔ v = 0 := beq_iff_eq

theorem Psw.setNZ16_n_iff (p : Psw) (w : Word) : (p.setNZ16 w).n = true ↔ 32768 ≤ w.toNat := getLsbD_top_iff w

theorem Psw.setNZ16_z_iff (p : Psw) (w : Word) : (p.setNZ16 w).z = true ↔ w = 0 := beq_iff_eq

/-- A primitive that ends with SetNZ8 of its result and writes C besides leaves the other five flags (R90). -/
theorem flags_of_setNZ8_withC {r : Alu8} {p : Psw} (h : r.psw = { p.setNZ8 r.value with c := r.psw.c }) :
    (r.psw.n = true ↔ 128 ≤ r.value.toNat) ∧ (r.psw.z = true ↔ r.value = 0) ∧
      r.psw.v = p.v ∧ r.psw.h = p.h ∧ r.psw.i = p.i ∧ r.psw.b = p.b ∧ r.psw.p = p.p := by
  rw [h]
  exact ⟨p.setNZ8_n_iff _, p.setNZ8_z_iff _, rfl, rfl, rfl, rfl, rfl⟩

/-! ### The logical primitives and the compares (R94 to R97, R108) -/

/-- The value of a difference; the modulus is added first, so that no subtraction of naturals is cut off (R114). -/
theorem toNat_sub_eq {k : Nat} (a b : BitVec k) : (a - b).toNat = (a.toNat + 2 ^ k - b.toNat) % 2 ^ k := by
  rw [BitVec.toNat_sub, ← Nat.sub_add_comm b.isLt.le, Nat.add_comm (2 ^ k)]

/-- Settles O54: the logical primitives end with SetNZ8 and change no more, the compares are SetNZ8 or SetNZ16 of the
difference, and C. -/
theorem logicAndCompareArithmetic : Obligations.LogicAndCompareArithmetic := by
  refine ⟨fun a b p j => ⟨BitVec.getLsbD_or, BitVec.getLsbD_and, BitVec.getLsbD_xor⟩,
    fun f hf a b p => ?logic, fun a b p => ?cmp, fun a b p => ?cmpw, fun v p => ?setNZ8, fun w p => ?setNZ16⟩
  case logic =>
    have hpsw : (f a b p).psw = p.setNZ8 (f a b p).value := by
      fin_cases hf <;> rfl
    simp only [hpsw]
    exact ⟨p.setNZ8_n_iff _, p.setNZ8_z_iff _, rfl, rfl, rfl, rfl, rfl, rfl⟩
  case cmp =>
    have hn := p.setNZ8_n_iff (a - b)
    rw [toNat_sub_eq] at hn
    exact ⟨hn, (p.setNZ8_z_iff _).trans sub_eq_zero, decide_eq_true_iff, rfl, rfl, rfl, rfl, rfl⟩
  case cmpw =>
    have hn := p.setNZ16_n_iff (a - b)
    rw [toNat_sub_eq] at hn
    exact ⟨hn, (p.setNZ16_z_iff _).trans sub_eq_zero, decide_eq_true_iff, rfl, rfl, rfl, rfl, rfl⟩
  case setNZ8 =>
    exact ⟨p.setNZ8_n_iff v, (p.setNZ8_z_iff v).trans (eq_zero_iff_toNat v), rfl, rfl, rfl, rfl, rfl, rfl⟩
  case setNZ16 =>
    exact ⟨p.setNZ16_n_iff w, (p.setNZ16_z_iff w).trans (eq_zero_iff_toNat w), rfl, rfl, rfl, rfl, rfl, rfl⟩

/-! ### Add with carry (R98) -/

section AddWithCarry

variable (a b : Byte) (p : Psw)

/-- The operands and the carry in are the result with the carry out as its ninth bit. -/
theorem aluAdc_sum : a.toNat + b.toNat + p.c.toNat = 256 * (aluAdc a b p).psw.c.toNat + (aluAdc a b p).value.toNat := by
  have hvalue : (aluAdc a b p).value.toNat = (a.toNat + b.toNat + p.c.toNat) % 256 := BitVec.toNat_ofNat ..
  have hc : (aluAdc a b p).psw.c = decide (255 < a.toNat + b.toNat + p.c.toNat) := rfl
  have hcarry := p.c.toNat_lt
  rw [hvalue, hc]
  rcases Nat.lt_or_ge 255 (a.toNat + b.toNat + p.c.toNat) with hover | hunder
  · rw [decide_eq_true hover, Bool.toNat_true]
    omega
  · rw [decide_eq_false hunder.not_gt, Bool.toNat_false]
    omega

theorem aluAdc_n_iff : (aluAdc a b p).psw.n = true ↔ 128 ≤ (aluAdc a b p).value.toNat :=
  getLsbD_top_iff (aluAdc a b p).value

theorem aluAdc_z_iff : (aluAdc a b p).psw.z = true ↔ (aluAdc a b p).value = 0 := beq_iff_eq

theorem aluAdc_c_iff : (aluAdc a b p).psw.c = true ↔ 255 < a.toNat + b.toNat + p.c.toNat := decide_eq_true_iff

/-- The result as a sum of bit vectors, the form whose bits the library gives. -/
theorem aluAdc_value : (aluAdc a b p).value = a + b + (BitVec.ofBool p.c).setWidth 8 := by
  have hc : BitVec.ofNat 8 p.c.toNat = (BitVec.ofBool p.c).setWidth 8 := by cases p.c <;> rfl
  have hvalue : (aluAdc a b p).value = BitVec.ofNat 8 (a.toNat + b.toNat + p.c.toNat) := rfl
  rw [hvalue, BitVec.ofNat_add, BitVec.ofNat_add, hc, BitVec.ofNat_toNat, BitVec.ofNat_toNat, BitVec.setWidth_eq,
    BitVec.setWidth_eq]

/-- H is the carry into bit 4, so the overflow of the low nibbles (R115). -/
theorem aluAdc_h_iff : (aluAdc a b p).psw.h = true ↔ 15 < a.toNat % 16 + b.toNat % 16 + p.c.toNat := by
  have hh : (aluAdc a b p).psw.h = (a ^^^ b ^^^ (aluAdc a b p).value).getLsbD 4 := rfl
  have hcarry : (aluAdc a b p).psw.h = BitVec.carry 4 a b p.c := by
    rw [hh, aluAdc_value, BitVec.getLsbD_xor, BitVec.getLsbD_xor, BitVec.getLsbD_add_add_bool (by decide)]
    cases a.getLsbD 4 <;> cases b.getLsbD 4 <;> simp
  rw [hcarry, BitVec.carry, decide_eq_true_iff]
  exact Iff.rfl

/-- V says that the operands have one sign and the result the other. -/
theorem aluAdc_v_iff_signs : (aluAdc a b p).psw.v = true ↔
    (128 ≤ a.toNat ↔ 128 ≤ b.toNat) ∧ ¬(128 ≤ a.toNat ↔ 128 ≤ (aluAdc a b p).value.toNat) := by
  have hv : (aluAdc a b p).psw.v = ((a ^^^ b ^^^ 0xFF) &&& (a ^^^ (aluAdc a b p).value)).getLsbD 7 := rfl
  have hones : (0xFF : Byte).getLsbD 7 = true := by decide
  have hsign (v : Byte) : 128 ≤ v.toNat ↔ v.getLsbD 7 = true := (getLsbD_top_iff v).symm
  rw [hv, BitVec.getLsbD_and, BitVec.getLsbD_xor, BitVec.getLsbD_xor, BitVec.getLsbD_xor, hones, hsign, hsign, hsign]
  cases a.getLsbD 7 <;> cases b.getLsbD 7 <;> simp

/-- V is the signed overflow. -/
theorem aluAdc_v_iff : (aluAdc a b p).psw.v = true ↔
    a.toInt + b.toInt + p.c.toNat < -128 ∨ 127 < a.toInt + b.toInt + p.c.toNat := by
  have hsum := aluAdc_sum a b p
  have hvalue := (aluAdc a b p).value.isLt
  have hcarry := p.c.toNat_lt
  have hout := (aluAdc a b p).psw.c.toNat_lt
  rw [aluAdc_v_iff_signs, BitVec.toInt_eq_toNat_cond a, BitVec.toInt_eq_toNat_cond b]
  omega

end AddWithCarry

/-! ### Subtract with borrow (R99) -/

/-- The one's complement in value. -/
theorem toNat_xor_allOnes {k : Nat} (b : BitVec k) : (b ^^^ BitVec.allOnes k).toNat = 2 ^ k - 1 - b.toNat := by
  rw [BitVec.xor_allOnes, BitVec.toNat_not]

/-- The one's complement as a signed number. -/
theorem toInt_xor_allOnes {k : Nat} (b : BitVec (k + 1)) : (b ^^^ BitVec.allOnes (k + 1)).toInt = -1 - b.toInt := by
  have hlt := b.isLt
  have heven : 2 ^ (k + 1) = 2 * 2 ^ k := Nat.pow_succ'
  rw [BitVec.toInt_eq_toNat_cond, BitVec.toInt_eq_toNat_cond b, toNat_xor_allOnes]
  generalize 2 ^ (k + 1) = modulus at *
  omega

/-- A carry in is the absence of a borrow. -/
theorem toNat_bool_not (c : Bool) : (!c).toNat = 1 - c.toNat := by cases c <;> rfl

section SubtractWithBorrow

variable (a b : Byte) (p : Psw)

/-- The minuend, lifted by 256, is the subtrahend, the borrow in and the result, with no borrow out as its ninth bit. -/
theorem aluSbc_sum : a.toNat + 256 =
    b.toNat + (!p.c).toNat + 256 * (aluSbc a b p).psw.c.toNat + (aluSbc a b p).value.toNat := by
  have hsum : a.toNat + (b ^^^ 0xFF).toNat + p.c.toNat =
    256 * (aluSbc a b p).psw.c.toNat + (aluSbc a b p).value.toNat := aluAdc_sum a (b ^^^ 0xFF) p
  have hnot : (b ^^^ 0xFF).toNat = 255 - b.toNat := toNat_xor_allOnes b
  have hborrow := toNat_bool_not p.c
  have hcarry := p.c.toNat_lt
  omega

theorem aluSbc_n_iff : (aluSbc a b p).psw.n = true ↔ 128 ≤ (aluSbc a b p).value.toNat := aluAdc_n_iff ..

theorem aluSbc_z_iff : (aluSbc a b p).psw.z = true ↔ (aluSbc a b p).value = 0 := aluAdc_z_iff ..

theorem aluSbc_c_iff : (aluSbc a b p).psw.c = true ↔ b.toNat + (!p.c).toNat ≤ a.toNat := by
  have hsum := aluSbc_sum a b p
  have hvalue := (aluSbc a b p).value.isLt
  rw [← Bool.toNat_eq_one]
  omega

/-- H is the absence of a borrow from bit 4 (R115). -/
theorem aluSbc_h_iff : (aluSbc a b p).psw.h = true ↔ b.toNat % 16 + (!p.c).toNat ≤ a.toNat % 16 := by
  have hnot : (b ^^^ 0xFF).toNat = 255 - b.toNat := toNat_xor_allOnes b
  have hborrow := toNat_bool_not p.c
  have hcarry := p.c.toNat_lt
  rw [aluSbc, aluAdc_h_iff, hnot]
  omega

theorem aluSbc_v_iff : (aluSbc a b p).psw.v = true ↔
    a.toInt - b.toInt - (!p.c).toNat < -128 ∨ 127 < a.toInt - b.toInt - (!p.c).toNat := by
  have hnot : (b ^^^ 0xFF).toInt = -1 - b.toInt := toInt_xor_allOnes b
  have hborrow := toNat_bool_not p.c
  have hcarry := p.c.toNat_lt
  rw [aluSbc, aluAdc_v_iff, hnot]
  omega

end SubtractWithBorrow

/-- Settles O49: the values are what the nine-bit equations of the sum and of the difference leave modulo 256. -/
theorem addAndSubtractWithCarryArithmetic : Obligations.AddAndSubtractWithCarryArithmetic := by
  refine ⟨fun a b p => ⟨?adc, aluAdc_c_iff a b p, aluAdc_v_iff a b p, aluAdc_h_iff a b p, aluAdc_n_iff a b p,
      aluAdc_z_iff a b p, rfl, rfl, rfl⟩,
    fun a b p => ⟨?sbc, aluSbc_c_iff a b p, aluSbc_v_iff a b p, aluSbc_h_iff a b p, aluSbc_n_iff a b p,
      aluSbc_z_iff a b p, rfl, rfl, rfl⟩⟩
  case adc => exact BitVec.toNat_ofNat ..
  case sbc =>
    have hsum := aluSbc_sum a b p
    have hvalue := (aluSbc a b p).value.isLt
    omega

/-! ### The 16-bit sum and difference (R106, R107) -/

/-- Two chained ADC steps, low bytes first, with Z over all 16 bits: what R106 and R107 share. -/
def adcChain (a b : Word) (p : Psw) : Alu16 :=
  let lo := aluAdc (wordLow a) (wordLow b) p
  let hi := aluAdc (wordHigh a) (wordHigh b) lo.psw
  ⟨wordOf hi.value lo.value, { hi.psw with z := wordOf hi.value lo.value == 0 }⟩

theorem aluAddw_eq_adcChain (a b : Word) (p : Psw) : aluAddw a b p = adcChain a b { p with c := false } := rfl

/-- The bytes of a complement are the complements of the bytes. -/
theorem aluSubw_eq_adcChain (a b : Word) (p : Psw) :
    aluSubw a b p = adcChain a (b ^^^ 0xFFFF) { p with c := true } := by
  have hlow : wordLow (b ^^^ 0xFFFF) = wordLow b ^^^ 0xFF := BitVec.extractLsb'_xor
  have hhigh : wordHigh (b ^^^ 0xFFFF) = wordHigh b ^^^ 0xFF := BitVec.extractLsb'_xor
  rw [adcChain, hlow, hhigh]
  rfl

/-- A word as a signed number: only its high byte has a sign. -/
theorem toInt_eq_high_low (w : Word) : w.toInt = 256 * (wordHigh w).toInt + (wordLow w).toNat := by
  have hlt := w.isLt
  rw [BitVec.toInt_eq_toNat_cond, BitVec.toInt_eq_toNat_cond, toNat_wordHigh, toNat_wordLow]
  omega

section Chain

variable (a b : Word) (p : Psw)

/-- The carry of the low bytes is the carry into the high bytes, so the two steps are one 17-bit equation. -/
theorem adcChain_sum : a.toNat + b.toNat + p.c.toNat =
    65536 * (adcChain a b p).psw.c.toNat + (adcChain a b p).value.toNat := by
  have hlow := aluAdc_sum (wordLow a) (wordLow b) p
  have hhigh := aluAdc_sum (wordHigh a) (wordHigh b) (aluAdc (wordLow a) (wordLow b) p).psw
  rw [toNat_wordLow, toNat_wordLow] at hlow
  rw [toNat_wordHigh, toNat_wordHigh] at hhigh
  simp only [adcChain, toNat_wordOf]
  omega

theorem adcChain_n_iff : (adcChain a b p).psw.n = true ↔ 32768 ≤ (adcChain a b p).value.toNat := by
  have hn : (adcChain a b p).psw.n = true ↔ _ := aluAdc_n_iff ..
  rw [hn]
  simp only [adcChain, toNat_wordOf]
  have := (aluAdc (wordLow a) (wordLow b) p).value.isLt
  omega

theorem adcChain_z_iff : (adcChain a b p).psw.z = true ↔ (adcChain a b p).value = 0 := beq_iff_eq

theorem adcChain_c_iff : (adcChain a b p).psw.c = true ↔ 65536 ≤ a.toNat + b.toNat + p.c.toNat := by
  have hsum := adcChain_sum a b p
  have hvalue := (adcChain a b p).value.isLt
  have hout := (adcChain a b p).psw.c.toNat_lt
  rw [← Bool.toNat_eq_one]
  omega

/-- H is the carry into bit 12. -/
theorem adcChain_h_iff : (adcChain a b p).psw.h = true ↔ 4096 ≤ a.toNat % 4096 + b.toNat % 4096 + p.c.toNat := by
  have hh : (adcChain a b p).psw.h = true ↔ _ := aluAdc_h_iff ..
  have hlow := aluAdc_sum (wordLow a) (wordLow b) p
  have hvalue := (aluAdc (wordLow a) (wordLow b) p).value.isLt
  rw [toNat_wordLow, toNat_wordLow] at hlow
  rw [hh, toNat_wordHigh, toNat_wordHigh]
  omega

theorem adcChain_v_iff : (adcChain a b p).psw.v = true ↔
    a.toInt + b.toInt + p.c.toNat < -32768 ∨ 32767 < a.toInt + b.toInt + p.c.toNat := by
  have hv : (adcChain a b p).psw.v = true ↔ _ := aluAdc_v_iff ..
  have hlow := aluAdc_sum (wordLow a) (wordLow b) p
  have hvalue := (aluAdc (wordLow a) (wordLow b) p).value.isLt
  rw [hv, toInt_eq_high_low a, toInt_eq_high_low b]
  omega

end Chain

/-- Settles O50: ADDW is the chain from C = 0, SUBW the chain over the complement from C = 1. -/
theorem wordAddAndSubtractArithmetic : Obligations.WordAddAndSubtractArithmetic := by
  intro a b p
  have hnot : (b ^^^ 0xFFFF).toNat = 65535 - b.toNat := toNat_xor_allOnes b
  have hnotInt : (b ^^^ 0xFFFF).toInt = -1 - b.toInt := toInt_xor_allOnes b
  have hb := b.isLt
  have hsum := adcChain_sum a b { p with c := false }
  have hdiff := adcChain_sum a (b ^^^ 0xFFFF) { p with c := true }
  rw [Bool.toNat_false] at hsum
  rw [Bool.toNat_true, hnot] at hdiff
  simp only [aluAddw_eq_adcChain, aluSubw_eq_adcChain]
  refine ⟨?addValue, ?subValue, ?addC, ?subC, ?addV, ?subV, ?addH, ?subH, adcChain_n_iff .., adcChain_z_iff ..,
    adcChain_n_iff .., adcChain_z_iff .., rfl, rfl, rfl, rfl, rfl, rfl⟩
  case addValue =>
    apply BitVec.eq_of_toNat_eq
    rw [BitVec.toNat_add]
    omega
  case subValue =>
    apply BitVec.eq_of_toNat_eq
    rw [BitVec.toNat_sub]
    omega
  case addC => exact adcChain_c_iff ..
  case subC =>
    rw [adcChain_c_iff, hnot, Bool.toNat_true]
    omega
  case addV =>
    rw [adcChain_v_iff, Bool.toNat_false]
    omega
  case subV =>
    rw [adcChain_v_iff, hnotInt, Bool.toNat_true]
    omega
  case addH => exact adcChain_h_iff ..
  case subH =>
    rw [adcChain_h_iff, hnot, Bool.toNat_true]
    omega


/-! ### Division (R113) -/

section Divide

variable {w : Word} {d : Byte} (p : Psw)

/-- Below twice the divisor the division is the ordinary one, the quotient cut to a byte. -/
theorem aluDiv_of_lt (h : w.toNat / 256 < 2 * d.toNat) :
    (aluDiv w d p).quo.toNat = w.toNat / d.toNat % 256 ∧ (aluDiv w d p).rem.toNat = w.toNat % d.toNat := by
  have hrem : w.toNat % d.toNat < d.toNat := Nat.mod_lt _ (by omega)
  have hd := d.isLt
  simp only [aluDiv, if_pos h, BitVec.toNat_ofNat]
  exact ⟨trivial, Nat.mod_eq_of_lt (by omega)⟩

/-- From twice the divisor on, the quotient and the remainder of the excess over 512 times the divisor, by its
complement, fit a byte. -/
theorem aluDiv_of_ge (h : 2 * d.toNat ≤ w.toNat / 256) :
    (aluDiv w d p).quo.toNat + (w.toNat - 512 * d.toNat) / (256 - d.toNat) = 255 ∧
      (aluDiv w d p).rem.toNat = d.toNat + (w.toNat - 512 * d.toNat) % (256 - d.toNat) := by
  have hd := d.isLt
  have hw := w.isLt
  have hquo : (w.toNat - 512 * d.toNat) / (256 - d.toNat) < 256 := by
    rw [Nat.div_lt_iff_lt_mul (by omega)]
    omega
  have hrem : (w.toNat - 512 * d.toNat) % (256 - d.toNat) < 256 - d.toNat := Nat.mod_lt _ (by omega)
  simp only [aluDiv, if_neg h.not_gt, BitVec.toNat_ofNat, Nat.mul_comm d.toNat 512]
  rw [Nat.mod_eq_of_lt (Nat.lt_succ_of_le (Nat.sub_le ..)), Nat.mod_eq_of_lt (by omega)]
  exact ⟨Nat.sub_add_cancel (Nat.le_of_lt_succ hquo), rfl⟩

end Divide

/-- Settles O51: the branch of R113 is chosen by comparing the high byte with twice the divisor; a zero divisor takes the
second. -/
theorem divideArithmetic : Obligations.DivideArithmetic := by
  intro w d p
  have hw := w.isLt
  refine ⟨decide_eq_true_iff, decide_eq_true_iff, fun hfits => ?exact, fun _ hlt => aluDiv_of_lt p hlt,
    fun hge => aluDiv_of_ge p hge, fun hzero => ?zero, p.setNZ8_n_iff _, p.setNZ8_z_iff _, rfl, rfl, rfl, rfl⟩
  case exact =>
    obtain ⟨hquo, hrem⟩ := aluDiv_of_lt (w := w) (d := d) p (by omega)
    have hbyte : w.toNat / d.toNat < 256 := by
      rw [Nat.div_lt_iff_lt_mul (by omega)]
      omega
    rw [hquo, hrem, Nat.mod_eq_of_lt hbyte]
    exact ⟨(Nat.div_add_mod' _ _).symm, Nat.mod_lt _ (by omega)⟩
  case zero =>
    subst hzero
    obtain ⟨hquo, hrem⟩ := aluDiv_of_ge (w := w) (d := 0) p (Nat.zero_le _)
    simp only [BitVec.ofNat_eq_ofNat, BitVec.toNat_ofNat, Nat.zero_mod, Nat.mul_zero, Nat.sub_zero, Nat.zero_add]
      at hquo hrem
    exact ⟨Nat.eq_sub_of_add_eq hquo, hrem⟩

/-! ### Shifts and rotates (R100 to R103) -/

/-- The bit shifted out at the top. -/
theorem toNat_getLsbD_seven (v : Byte) : (v.getLsbD 7).toNat = v.toNat / 128 := by
  have hv := v.isLt
  have htop : v.getLsbD 7 = true ↔ 128 ≤ v.toNat := getLsbD_top_iff v
  have hbit := (v.getLsbD 7).toNat_lt
  rw [← Bool.toNat_eq_one] at htop
  omega

/-- The bit shifted out at the bottom. -/
theorem toNat_getLsbD_zero (v : Byte) : (v.getLsbD 0).toNat = v.toNat % 2 := by
  rw [← BitVec.testBit_toNat, Nat.toNat_testBit, Nat.pow_zero, Nat.div_one]

theorem toNat_shiftLeft_one (v : Byte) : (v <<< 1).toNat = 2 * v.toNat % 256 := by
  rw [BitVec.toNat_shiftLeft, Nat.shiftLeft_eq, Nat.mul_comm]

theorem toNat_ushiftRight_one (v : Byte) : (v >>> 1).toNat = v.toNat / 2 := by
  rw [BitVec.toNat_ushiftRight, Nat.shiftRight_eq_div_pow]

/-- The carry as a byte. -/
theorem toNat_setWidth_ofBool (c : Bool) : ((BitVec.ofBool c).setWidth 8).toNat = c.toNat := by cases c <;> rfl

section Shifts

variable (v : Byte) (p : Psw)

theorem aluAsl_sum : 2 * v.toNat = 256 * (aluAsl v p).psw.c.toNat + (aluAsl v p).value.toNat := by
  have hv := v.isLt
  simp only [aluAsl, toNat_getLsbD_seven, toNat_shiftLeft_one]
  omega

theorem aluLsr_sum : v.toNat = 2 * (aluLsr v p).value.toNat + (aluLsr v p).psw.c.toNat := by
  simp only [aluLsr, toNat_getLsbD_zero, toNat_ushiftRight_one]
  omega

/-- The carry enters below the bits shifted up, where they leave a 0. -/
theorem toNat_aluRol_value : (aluRol v p).value.toNat = 2 * v.toNat % 256 + p.c.toNat := by
  have hshift : 2 * v.toNat % 256 = 2 ^ 1 * (v.toNat % 128) := by omega
  rw [aluRol, BitVec.toNat_or, toNat_shiftLeft_one, toNat_setWidth_ofBool, hshift,
    Nat.two_pow_add_eq_or_of_lt p.c.toNat_lt]

/-- The carry enters above the bits shifted down. -/
theorem toNat_aluRor_value : (aluRor v p).value.toNat = 128 * p.c.toNat + v.toNat / 2 := by
  have hlow : v.toNat / 2 < 2 ^ 7 := by
    have hv := v.isLt
    omega
  have htop : ((BitVec.ofBool p.c).setWidth 8 <<< 7).toNat = 2 ^ 7 * p.c.toNat := by
    have hc := p.c.toNat_lt
    rw [BitVec.toNat_shiftLeft, toNat_setWidth_ofBool, Nat.shiftLeft_eq]
    omega
  rw [aluRor, BitVec.toNat_or, toNat_ushiftRight_one, htop, ← Nat.two_pow_add_eq_or_of_lt hlow]

/-- ROL is a rotation of the nine bits of C and the byte. -/
theorem aluRol_sum : 2 * v.toNat + p.c.toNat = 256 * (aluRol v p).psw.c.toNat + (aluRol v p).value.toNat := by
  have hv := v.isLt
  have hc : (aluRol v p).psw.c.toNat = v.toNat / 128 := toNat_getLsbD_seven v
  rw [hc, toNat_aluRol_value]
  omega

/-- ROR is a rotation of the nine bits of C and the byte. -/
theorem aluRor_sum : v.toNat + 256 * p.c.toNat = 2 * (aluRor v p).value.toNat + (aluRor v p).psw.c.toNat := by
  have hc : (aluRor v p).psw.c.toNat = v.toNat % 2 := toNat_getLsbD_zero v
  rw [hc, toNat_aluRor_value]
  omega

end Shifts

/-- Nine bits are known from their number. -/
theorem eq_of_nine_bits_eq {v v' : Byte} {c c' : Bool} (h : 256 * c.toNat + v.toNat = 256 * c'.toNat + v'.toNat) :
    v = v' ∧ c = c' := by
  have hv := v.isLt
  have hv' := v'.isLt
  have hc : c = true ↔ c' = true := by
    rw [← Bool.toNat_eq_one, ← Bool.toNat_eq_one]
    omega
  exact ⟨BitVec.eq_of_toNat_eq (by omega), Bool.eq_iff_iff.mpr hc⟩

theorem aluRor_aluRol (v : Byte) (p : Psw) : (aluRor (aluRol v p).value (aluRol v p).psw).value = v ∧
    (aluRor (aluRol v p).value (aluRol v p).psw).psw.c = p.c := by
  have hleft := aluRol_sum v p
  have hright := aluRor_sum (aluRol v p).value (aluRol v p).psw
  have hc := p.c.toNat_lt
  have hout := (aluRor (aluRol v p).value (aluRol v p).psw).psw.c.toNat_lt
  exact eq_of_nine_bits_eq (by omega)

theorem aluRol_aluRor (v : Byte) (p : Psw) : (aluRol (aluRor v p).value (aluRor v p).psw).value = v ∧
    (aluRol (aluRor v p).value (aluRor v p).psw).psw.c = p.c := by
  have hright := aluRor_sum v p
  have hleft := aluRol_sum (aluRor v p).value (aluRor v p).psw
  exact eq_of_nine_bits_eq (by omega)

/-! ### The product (R112) and the status word as a byte (R32) -/

/-- Two bytes have a product that fits in a word. -/
theorem toNat_aluMul_value (a b : Byte) (p : Psw) : (aluMul a b p).value.toNat = a.toNat * b.toNat := by
  have hfits : a.toNat * b.toNat ≤ 255 * 255 :=
    Nat.mul_le_mul (Nat.le_of_lt_succ a.isLt) (Nat.le_of_lt_succ b.isLt)
  exact (BitVec.toNat_ofNat ..).trans (Nat.mod_eq_of_lt (by omega))

/-- Each bit of the byte is the flag that is read back from it. -/
theorem Psw.toByte_bits (p : Psw) : p.toByte.getLsbD 0 = p.c ∧ p.toByte.getLsbD 1 = p.z ∧ p.toByte.getLsbD 2 = p.i ∧
    p.toByte.getLsbD 3 = p.h ∧ p.toByte.getLsbD 4 = p.b ∧ p.toByte.getLsbD 5 = p.p ∧ p.toByte.getLsbD 6 = p.v ∧
    p.toByte.getLsbD 7 = p.n := by
  have hback := p.ofByte_toByte
  exact ⟨congrArg Psw.c hback, congrArg Psw.z hback, congrArg Psw.i hback, congrArg Psw.h hback,
    congrArg Psw.b hback, congrArg Psw.p hback, congrArg Psw.v hback, congrArg Psw.n hback⟩

/-- Settles O53: each shift and rotate is an equation of nine bits, which decides that the rotates undo each other. -/
theorem shiftsRotatesAndProducts : Obligations.ShiftsRotatesAndProducts := by
  refine ⟨fun v p => ?sums, fun f hf v p => ?flags, fun a b p => ?product, Psw.toByte_bits, Psw.ofByte_toByte,
    Psw.toByte_ofByte⟩
  case sums =>
    obtain ⟨hrorValue, hrorCarry⟩ := aluRor_aluRol v p
    obtain ⟨hrolValue, hrolCarry⟩ := aluRol_aluRor v p
    have hn : (aluLsr v p).psw.n = false := by
      have hhalf := aluLsr_sum v p
      have hv := v.isLt
      have hbit : (aluLsr v p).psw.n = true ↔ 128 ≤ (aluLsr v p).value.toNat := p.setNZ8_n_iff _
      rw [← Bool.not_eq_true, hbit]
      omega
    exact ⟨aluAsl_sum v p, aluLsr_sum v p, hn, aluRol_sum v p, aluRor_sum v p, hrorValue, hrorCarry, hrolValue,
      hrolCarry⟩
  case flags =>
    refine flags_of_setNZ8_withC ?_
    fin_cases hf <;> rfl
  case product =>
    have hvalue := toNat_aluMul_value a b p
    have hn : (aluMul a b p).psw.n = true ↔ _ := p.setNZ16_n_iff _
    have hz : (aluMul a b p).psw.z = true ↔ (aluMul a b p).value = 0 := p.setNZ16_z_iff _
    rw [eq_zero_iff_toNat, hvalue, Nat.mul_eq_zero, ← eq_zero_iff_toNat, ← eq_zero_iff_toNat] at hz
    rw [← hvalue]
    exact ⟨rfl, hn, hz, rfl, rfl, rfl, rfl, rfl, rfl⟩

/-! ### Decimal adjust (R109, R110) -/

/-- The low nibble of a byte. -/
theorem toNat_and_low_nibble (a : Byte) : (a &&& 0x0F).toNat = a.toNat % 16 :=
  Nat.and_two_pow_sub_one_eq_mod a.toNat 4

section DecimalAdjust

variable (a : Byte) (p : Psw)

theorem aluDaa_c_iff : (aluDaa a p).psw.c = true ↔ p.c = true ∨ 0x99 < a.toNat := by
  have hc : (aluDaa a p).psw.c = (p.c || decide (0x99 < a.toNat)) := rfl
  rw [hc, Bool.or_eq_true, decide_eq_true_iff]

theorem aluDas_c_iff : (aluDas a p).psw.c = false ↔ p.c = false ∨ 0x99 < a.toNat := by
  have hc : (aluDas a p).psw.c = !(!p.c || decide (0x99 < a.toNat)) := rfl
  rw [hc, Bool.not_eq_false', Bool.or_eq_true, Bool.not_eq_true', decide_eq_true_iff]

/-- The two corrections of DAA, the second decided on what the first leaves. -/
theorem toNat_aluDaa_value :
    let first := if p.c = true ∨ 0x99 < a.toNat then (a.toNat + 0x60) % 256 else a.toNat
    (aluDaa a p).value.toNat = if p.h = true ∨ 9 < first % 16 then (first + 6) % 256 else first := by
  intro first
  simp only [aluDaa, apply_ite BitVec.toNat, BitVec.toNat_add, toNat_and_low_nibble, Bool.or_eq_true,
    decide_eq_true_iff]
  rfl

/-- The two corrections of DAS, the second decided on what the first leaves. -/
theorem toNat_aluDas_value :
    let first := if p.c = false ∨ 0x99 < a.toNat then (a.toNat + 256 - 0x60) % 256 else a.toNat
    (aluDas a p).value.toNat = if p.h = false ∨ 9 < first % 16 then (first + 256 - 6) % 256 else first := by
  intro first
  simp only [aluDas, apply_ite BitVec.toNat, toNat_sub_eq, toNat_and_low_nibble, Bool.or_eq_true,
    decide_eq_true_iff, Bool.not_eq_true']
  rfl

end DecimalAdjust

/-- A number below 100 as two decimal digits, one a nibble. -/
def decimalDigits (n : Nat) : Byte := BitVec.ofNat 8 (n / 10 * 16 + n % 10)

theorem toNat_decimalDigits {n : Nat} (h : n < 100) : (decimalDigits n).toNat = n / 10 * 16 + n % 10 := by
  rw [decimalDigits, BitVec.toNat_ofNat, Nat.mod_eq_of_lt (by omega)]

/-- The low nibble is the low digit. -/
theorem toNat_decimalDigits_mod {n : Nat} (h : n < 100) : (decimalDigits n).toNat % 16 = n % 10 := by
  rw [toNat_decimalDigits h]
  omega

section DecimalSums

variable {x y : Nat} (p : Psw)

/-- After ADC of decimal numbers, the corrections carry each digit sum past 9 into the next digit. -/
theorem aluDaa_aluAdc_decimal (hx : x < 100) (hy : y < 100) :
    let sum := aluAdc (decimalDigits x) (decimalDigits y) p
    (aluDaa sum.value sum.psw).value = decimalDigits ((x + y + p.c.toNat) % 100) ∧
      ((aluDaa sum.value sum.psw).psw.c = true ↔ 100 ≤ x + y + p.c.toNat) := by
  intro sum
  have hsum : _ = 256 * sum.psw.c.toNat + sum.value.toNat := aluAdc_sum (decimalDigits x) (decimalDigits y) p
  have hc : sum.psw.c = true ↔ _ := aluAdc_c_iff (decimalDigits x) (decimalDigits y) p
  have hh : sum.psw.h = true ↔ _ := aluAdc_h_iff (decimalDigits x) (decimalDigits y) p
  rw [toNat_decimalDigits_mod hx, toNat_decimalDigits_mod hy] at hh
  rw [toNat_decimalDigits hx, toNat_decimalDigits hy] at hsum hc
  have hcarry := p.c.toNat_lt
  have hvalue := sum.value.isLt
  have hhigh : sum.psw.c = true ∨ 0x99 < sum.value.toNat ↔ 100 ≤ x + y + p.c.toNat := by
    rw [hc]
    omega
  refine ⟨?_, (aluDaa_c_iff ..).trans hhigh⟩
  apply BitVec.eq_of_toNat_eq
  rw [toNat_decimalDigits (Nat.mod_lt _ (by decide)), toNat_aluDaa_value]
  simp only [hhigh, hh]
  split <;> split <;> omega

/-- After SBC of decimal numbers, the corrections borrow 10 where the nibbles have borrowed 16. -/
theorem aluDas_aluSbc_decimal (hx : x < 100) (hy : y < 100) :
    let diff := aluSbc (decimalDigits x) (decimalDigits y) p
    (aluDas diff.value diff.psw).value = decimalDigits ((x + 100 - y - (!p.c).toNat) % 100) ∧
      ((aluDas diff.value diff.psw).psw.c = true ↔ y + (!p.c).toNat ≤ x) := by
  intro diff
  have hdiff : _ = _ + 256 * diff.psw.c.toNat + diff.value.toNat := aluSbc_sum (decimalDigits x) (decimalDigits y) p
  have hc : diff.psw.c = true ↔ _ := aluSbc_c_iff (decimalDigits x) (decimalDigits y) p
  have hh : diff.psw.h = true ↔ _ := aluSbc_h_iff (decimalDigits x) (decimalDigits y) p
  rw [toNat_decimalDigits_mod hx, toNat_decimalDigits_mod hy] at hh
  rw [toNat_decimalDigits hx, toNat_decimalDigits hy] at hdiff hc
  have hborrow := (!p.c).toNat_lt
  have hvalue := diff.value.isLt
  have hhigh : diff.psw.c = false ∨ 0x99 < diff.value.toNat ↔ ¬ y + (!p.c).toNat ≤ x := by
    rw [← Bool.not_eq_true, hc]
    omega
  have hlow : diff.psw.h = false ↔ ¬ y % 10 + (!p.c).toNat ≤ x % 10 := by
    rw [← Bool.not_eq_true, hh]
  refine ⟨?_, ?_⟩
  · apply BitVec.eq_of_toNat_eq
    rw [toNat_decimalDigits (Nat.mod_lt _ (by decide)), toNat_aluDas_value]
    simp only [hhigh, hlow]
    split <;> split <;> omega
  · rw [← not_iff_not, Bool.not_eq_true, aluDas_c_iff, hhigh]

end DecimalSums

/-- Settles O52: the corrections on every byte, and on what ADC and SBC leave of decimal numbers. -/
theorem decimalAdjustGivesDecimalSums : Obligations.DecimalAdjustGivesDecimalSums := by
  refine ⟨fun x y p hx hy => ?decimal, fun a p => ⟨toNat_aluDaa_value a p, aluDaa_c_iff a p, ?set⟩,
    fun a p => ⟨toNat_aluDas_value a p, aluDas_c_iff a p, ?cleared⟩, fun f hf a p => ?flags⟩
  case decimal =>
    obtain ⟨hraised, hcarry⟩ := aluDaa_aluAdc_decimal p hx hy
    obtain ⟨hlowered, hborrow⟩ := aluDas_aluSbc_decimal p hx hy
    exact ⟨hraised, hcarry, hlowered, hborrow⟩
  case set => exact fun hc => (aluDaa_c_iff a p).mpr (.inl hc)
  case cleared => exact fun hc => (aluDas_c_iff a p).mpr (.inl hc)
  case flags =>
    refine flags_of_setNZ8_withC ?_
    fin_cases hf <;> rfl

end Sys2Proof.Machine

/-! PROOFS. The block move of 42_move.md: its passes, their events in order, and where the loop ends. -/

namespace Sys2Proof.Machine

/-! ### A stretch of cycles with its events, and memory at its end

`Spans s events t` keeps the events of an account (R51, R57) in the statement, so that a loop can say which they are. -/

/-- From `s` to `t` the bus saw these events, in this order, and they are a true account of it. -/
structure Spans (s : State) (events : List BusEvent) (t : State) : Prop where
  trace : t.trace = events.reverse ++ s.trace
  cycles : t.cycles = s.cycles + events.length
  oracle : t.oracle = s.oracle
  accounts : Accounts s.oracle s.cycles s.mem events t.mem

theorem Spans.refl (s : State) : Spans s [] s := ⟨rfl, rfl, rfl, rfl⟩

/-- Two stretches one after the other are one. -/
theorem Spans.trans {s t u : State} {first rest : List BusEvent} (h : Spans s first t) (g : Spans t rest u) :
    Spans s (first ++ rest) u where
  trace := by rw [g.trace, h.trace, List.reverse_append, List.append_assoc]
  cycles := by rw [g.cycles, h.cycles, List.length_append, Nat.add_assoc]
  oracle := g.oracle.trans h.oracle
  accounts := (accounts_append ..).mpr ⟨t.mem, h.accounts, by rw [← h.oracle, ← h.cycles]; exact g.accounts⟩

/-- The fetch of the byte that the bus answers at PC. -/
theorem spans_fetchOpcode (s : State) : Spans s [.fetch s.pc s.opcodeByte] (s.fetchOpcode s.opcodeByte) :=
  ⟨rfl, rfl, rfl, rfl, rfl⟩

theorem spans_idles (s : State) (n : Nat) : Spans s (List.replicate n .idle) (s.idles n) where
  trace := by rw [List.reverse_replicate, State.idles_trace]
  cycles := by rw [List.length_replicate, State.idles_cycles]
  oracle := rfl
  accounts := (accounts_idles ..).mpr rfl

/-! ### The passes of a block move (R186) -/

/-- A register value moved `j` places in the direction of the variant, at 8 bits. -/
def blockMoved (d : BlockDirection) (j : Nat) (v : Byte) : Byte :=
  match d with
  | .increment => v + BitVec.ofNat 8 j
  | .decrement => v - BitVec.ofNat 8 j

theorem ofNat_succ_byte (j : Nat) : BitVec.ofNat 8 (j + 1) = BitVec.ofNat 8 j + 1 := BitVec.ofNat_add j 1

@[simp] theorem blockMoved_zero (d : BlockDirection) (v : Byte) : blockMoved d 0 v = v := by
  cases d <;> simp [blockMoved]

/-- One place more is one advance more. -/
theorem blockMoved_succ (d : BlockDirection) (j : Nat) (v : Byte) :
    blockMoved d (j + 1) v = blockAdvance d (blockMoved d j v) := by
  cases d with
  | increment => simp only [blockMoved, blockAdvance, ofNat_succ_byte, BitVec.add_assoc]
  | decrement => simp only [blockMoved, blockAdvance, ofNat_succ_byte, sub_add_eq_sub_sub]

/-- The bus events of one pass that moves the byte `v`. -/
def passEvents (bm : BlockMove) (source dest : Word) (v : Byte) : List BusEvent :=
  .read source v :: .write dest v :: List.replicate (bm.iter - 2) .idle

/-- A pass of a well-formed variant costs `iter` cycles. -/
theorem passEvents_length {bm : BlockMove} (h : bm.wf) (source dest : Word) (v : Byte) :
    (passEvents bm source dest v).length = bm.iter := by
  obtain ⟨-, -, -, hiter, -⟩ := h
  simp only [passEvents, List.length_cons, List.length_replicate]
  omega

/-- A pass reads at the source index, writes the very byte at the destination index, and idles. -/
theorem State.spans_blockPass (s : State) (bm : BlockMove) :
    Spans s (passEvents bm (s.dp (s.getReg bm.src)) (s.dp (s.getReg bm.dst)) (s.busAt 0 (s.dp (s.getReg bm.src))))
      (s.blockPass bm) where
  trace := by simp [passEvents]
  cycles := by simp [passEvents]; omega
  oracle := s.blockPass_oracle bm
  accounts := by
    rw [passEvents, Accounts, Accounts, accounts_idles, State.blockPass_mem]
    exact ⟨rfl, rfl⟩

/-- The state after `j` passes. -/
def State.blockPasses (s : State) (bm : BlockMove) (j : Nat) : State := (fun t => t.blockPass bm)^[j] s

section Passes

variable (s : State) (bm : BlockMove)

@[simp] theorem State.blockPasses_zero : s.blockPasses bm 0 = s := rfl

/-- The last pass split off. -/
theorem State.blockPasses_succ (j : Nat) : s.blockPasses bm (j + 1) = (s.blockPasses bm j).blockPass bm :=
  Function.iterate_succ_apply' _ j s

/-- The first pass split off. -/
theorem State.blockPasses_succ_first (j : Nat) : s.blockPasses bm (j + 1) = (s.blockPass bm).blockPasses bm j :=
  Function.iterate_succ_apply _ j s

/-- No pass touches PC, the flags or HALT. -/
theorem State.blockPasses_keeps (j : Nat) :
    (s.blockPasses bm j).pc = s.pc ∧ (s.blockPasses bm j).psw = s.psw ∧ (s.blockPasses bm j).halt = s.halt := by
  induction j with
  | zero => exact ⟨rfl, rfl, rfl⟩
  | succ j ih => simpa only [State.blockPasses_succ, State.blockPass_pc, State.blockPass_psw, State.blockPass_halt]

/-- The registers after `j` passes of a well-formed variant. -/
theorem State.blockPasses_getReg (h : bm.wf) (q : RegIndex) (j : Nat) :
    (s.blockPasses bm j).getReg q =
      if q = bm.cnt then s.getReg q - BitVec.ofNat 8 j
      else if q = bm.src ∨ q = bm.dst then blockMoved bm.dir j (s.getReg q)
      else s.getReg q := by
  induction j with
  | zero => simp
  | succ j ih =>
    rw [State.blockPasses_succ, State.blockPass_getReg _ _ h, ih, ofNat_succ_byte, sub_add_eq_sub_sub, blockMoved_succ]
    split
    · rfl
    · split <;> rfl

/-- The events of the first `j` passes: pass `i` finds the indexes moved `i` places. -/
theorem State.spans_blockPasses (h : bm.wf) (j : Nat) :
    Spans s
      ((List.range j).flatMap fun i =>
        passEvents bm (s.dp (blockMoved bm.dir i (s.getReg bm.src))) (s.dp (blockMoved bm.dir i (s.getReg bm.dst)))
          ((s.blockPasses bm i).busAt 0 (s.dp (blockMoved bm.dir i (s.getReg bm.src)))))
      (s.blockPasses bm j) := by
  obtain ⟨-, hsc, hdc, -, -⟩ := id h
  induction j with
  | zero => exact .refl s
  | succ j ih =>
    obtain ⟨-, hpsw, -⟩ := s.blockPasses_keeps bm j
    have hdp : (s.blockPasses bm j).dp = s.dp := by
      funext o
      rw [State.dp, hpsw, State.dp]
    have hpass := (s.blockPasses bm j).spans_blockPass bm
    rw [hdp, s.blockPasses_getReg bm h, s.blockPasses_getReg bm h, if_neg hsc, if_neg hdc, if_pos (.inl rfl),
      if_pos (.inr rfl)] at hpass
    rw [List.range_succ, List.flatMap_append, List.flatMap_singleton, State.blockPasses_succ]
    exact ih.trans hpass

/-- The loop makes passes up to the first one that leaves the count at 0, if the fuel is enough for them. -/
theorem State.blockLoop_eq_blockPasses {fuel k : Nat} (hfuel : k + 1 ≤ fuel)
    (hrun : ∀ j < k, (s.blockPasses bm (j + 1)).getReg bm.cnt ≠ 0)
    (hend : (s.blockPasses bm (k + 1)).getReg bm.cnt = 0) :
    State.blockLoop bm fuel s = s.blockPasses bm (k + 1) := by
  induction k generalizing s fuel with
  | zero =>
    obtain ⟨fuel, rfl⟩ := Nat.exists_eq_add_of_le' hfuel
    exact if_pos hend
  | succ k ih =>
    obtain ⟨fuel, rfl⟩ := Nat.exists_eq_add_of_le' (Nat.le_of_add_left_le hfuel : 1 ≤ fuel)
    have hfirst : (s.blockPass bm).getReg bm.cnt ≠ 0 := hrun 0 (by omega)
    rw [State.blockLoop_succ, if_neg hfirst, State.blockPasses_succ_first]
    refine ih (s.blockPass bm) (by omega) (fun j hj => ?_) ?_
    · rw [← State.blockPasses_succ_first]
      exact hrun (j + 1) (by omega)
    · rw [← State.blockPasses_succ_first]
      exact hend

end Passes

/-- The passes a count register asks for: a count of 0 is 256. -/
def passCount (v : Byte) : Nat := if v.toNat = 0 then 256 else v.toNat

theorem passCount_bounds (v : Byte) : 1 ≤ passCount v ∧ passCount v ≤ 256 := by
  have hv := v.isLt
  unfold passCount
  split <;> omega

/-- Going down from `v`, the count first reaches 0 after `passCount v` passes. -/
theorem sub_ofNat_eq_zero_iff {v : Byte} {j : Nat} (hpos : 1 ≤ j) (hle : j ≤ passCount v) :
    v - BitVec.ofNat 8 j = 0 ↔ j = passCount v := by
  have hv := v.isLt
  rw [sub_eq_zero, ← BitVec.toNat_inj, BitVec.toNat_ofNat]
  by_cases hzero : v.toNat = 0
  · rw [passCount, if_pos hzero] at hle ⊢
    omega
  · rw [passCount, if_neg hzero] at hle ⊢
    omega

/-- The state before the first pass: the opcode fetched, the rest of the base cost spent. -/
def State.blockEntry (s : State) (bm : BlockMove) : State := (s.fetchOpcode s.opcodeByte).idles (bm.base - 1)

@[simp] theorem State.blockEntry_getReg (s : State) (bm : BlockMove) (q : RegIndex) :
    (s.blockEntry bm).getReg q = s.getReg q := by
  cases q <;> rfl

@[simp] theorem State.blockEntry_dp (s : State) (bm : BlockMove) (o : Byte) : (s.blockEntry bm).dp o = s.dp o := rfl

theorem State.spans_blockEntry (s : State) (bm : BlockMove) :
    Spans s (.fetch s.pc s.opcodeByte :: List.replicate (bm.base - 1) .idle) (s.blockEntry bm) :=
  (spans_fetchOpcode s).trans (spans_idles _ _)

/-- A whole block move of a well-formed variant is its number of passes, after the base cost. -/
theorem State.blockMove_eq_blockPasses (s : State) {bm : BlockMove} (h : bm.wf) :
    s.blockMove bm = (s.blockEntry bm).blockPasses bm (passCount (s.getReg bm.cnt)) := by
  obtain ⟨hlow, hhigh⟩ := passCount_bounds (s.getReg bm.cnt)
  obtain ⟨k, hk⟩ := Nat.exists_eq_add_of_le' hlow
  have hcount : ∀ j, 1 ≤ j → j ≤ k + 1 →
      (((s.blockEntry bm).blockPasses bm j).getReg bm.cnt = 0 ↔ j = passCount (s.getReg bm.cnt)) := by
    intro j hpos hle
    rw [State.blockPasses_getReg _ _ h, if_pos rfl, State.blockEntry_getReg]
    exact sub_ofNat_eq_zero_iff hpos (hk ▸ hle)
  rw [hk] at hcount ⊢
  exact State.blockLoop_eq_blockPasses _ bm (by omega)
    (fun j hj h0 => by have := (hcount (j + 1) (by omega) (by omega)).mp h0; omega)
    ((hcount (k + 1) (by omega) le_rfl).mpr rfl)

/-- The number of events is the number of cycles the rule gives. -/
theorem passEvents_total_length {bm : BlockMove} (h : bm.wf) (source dest : Nat → Word) (byte : Nat → Byte)
    (k : Nat) :
    ((List.range k).flatMap fun j => passEvents bm (source j) (dest j) (byte j)).length = k * bm.iter := by
  simp [List.length_flatMap, passEvents_length h]

/-- Settles O60: the step is the block move of its slot, that is its base cost and then its passes. -/
theorem blockMoveMovesItsCountAndEnds : Obligations.BlockMoveMovesItsCountAndEnds := by
  intro p bm s hwf hrunning hslot count k moved
  obtain ⟨-, hsc, hdc, -, hbase⟩ := id hwf
  have hspan := (s.spans_blockEntry bm).trans ((s.blockEntry bm).spans_blockPasses bm hwf k)
  have hreg := fun q => (s.blockEntry bm).blockPasses_getReg bm hwf q k
  obtain ⟨hpc, hpsw, hhalt⟩ := (s.blockEntry bm).blockPasses_keeps bm k
  simp only [State.blockEntry_getReg, State.blockEntry_dp] at hspan hreg
  have hcycles : ((s.blockEntry bm).blockPasses bm k).cycles = s.cycles + bm.base + k * bm.iter := by
    rw [hspan.cycles, List.length_append, passEvents_total_length hwf, List.length_cons, List.length_replicate]
    omega
  have hcount : ((s.blockEntry bm).blockPasses bm k).getReg bm.cnt = 0 := by
    rw [hreg, if_pos rfl]
    exact (sub_ofNat_eq_zero_iff (passCount_bounds _).1 le_rfl).mpr rfl
  have hrest : ∀ q, q ≠ bm.src → q ≠ bm.dst → q ≠ bm.cnt →
      ((s.blockEntry bm).blockPasses bm k).getReg q = s.getReg q := by
    intro q hs hd hc
    rw [hreg, if_neg hc, if_neg (by simp [hs, hd])]
  refine ⟨(s.blockEntry bm).blockPasses bm k,
    fun j => ((s.blockEntry bm).blockPasses bm j).busAt 0 (s.dp (blockMoved bm.dir j (s.getReg bm.src))),
    (stepWith_of_slot p s hrunning hslot).trans (congrArg _ (s.blockMove_eq_blockPasses hwf)), hspan.trace, hcycles,
    hspan.accounts, hspan.oracle, hcount, ?sourceIndex, ?destIndex, hrest, hpsw, hhalt.trans hrunning, hpc⟩
  case sourceIndex =>
    rw [hreg, if_neg hsc, if_pos (.inl rfl)]
    rfl
  case destIndex =>
    rw [hreg, if_neg hdc, if_pos (.inr rfl)]
    rfl

end Sys2Proof.Machine

/-! PROOFS. The `MOV`, `MOVW` and `MOV1` instructions of 42_move.md: what each addressing mode reaches, and what is done
there. -/

namespace Sys2Proof.Machine

/-! ### Runs put together from their cycles

`Reaches s regs events mem t` is the part of `Runs` that speaks of the two states. It grows by one cycle at a time, so
the run of an instruction is put together in the order of its rule. -/

/-- From `s` to `t` these bus events passed, in this order, and `t` has these registers and reads as `mem`. -/
structure Reaches (s : State) (regs : Registers) (events : List BusEvent) (mem : Word → Byte) (t : State) : Prop where
  registers : t.registers = regs
  trace : t.trace = events.reverse ++ s.trace
  cycles : t.cycles = s.cycles + events.length
  memAt : t.memAt = mem
  oracle : t.oracle = s.oracle

section Reaches

variable {s t : State} {regs : Registers} {events : List BusEvent} {mem : Word → Byte}

/-- An instruction that ends in a state runs to it. -/
theorem Reaches.runs {i : Instr} (h : Reaches s regs events mem t) (hexec : exec i s = .next t) :
    Runs i s regs events mem :=
  ⟨t, hexec, h.registers, h.trace, h.cycles, congrFun h.memAt, h.oracle⟩

/-- One cycle more, which changes no register; memory is what the next state reads as. -/
theorem Reaches.event {u : State} {e : BusEvent} {mem' : Word → Byte} (h : Reaches s regs events mem t)
    (hregs : u.registers = t.registers) (htrace : u.trace = e :: t.trace) (hcycles : u.cycles = t.cycles + 1)
    (hmem : u.memAt = mem') (horacle : u.oracle = t.oracle) : Reaches s regs (events ++ [e]) mem' u where
  registers := hregs.trans h.registers
  trace := by rw [htrace, h.trace, List.reverse_append]; rfl
  cycles := by rw [hcycles, h.cycles, List.length_append]; rfl
  memAt := hmem
  oracle := horacle.trans h.oracle

/-- What the bus answers after some cycles without a write. -/
theorem Reaches.bus_eq (h : Reaches s regs events s.memAt t) (a : Word) : t.bus a = s.busAt events.length a := by
  have hmem : memByte t.mem a.toNat = memByte s.mem a.toNat := congrFun h.memAt a
  rw [State.bus, State.busAt, busAnswer, busAnswer, h.oracle, h.cycles, hmem]

theorem Reaches.idle (h : Reaches s regs events mem t) : Reaches s regs (events ++ [BusEvent.idle]) mem t.idle :=
  h.event rfl rfl rfl h.memAt rfl

theorem Reaches.read (h : Reaches s regs events s.memAt t) (a : Word) :
    Reaches s regs (events ++ [BusEvent.read a (s.busAt events.length a)]) s.memAt (t.read a) :=
  h.event rfl (by rw [← h.bus_eq]; rfl) rfl h.memAt rfl

theorem Reaches.discard (h : Reaches s regs events s.memAt t) (a : Word) :
    Reaches s regs (events ++ [BusEvent.discard a (s.busAt events.length a)]) s.memAt (t.discardRead a) :=
  h.event rfl (by rw [← h.bus_eq]; rfl) rfl h.memAt rfl

theorem Reaches.write (h : Reaches s regs events mem t) (a : Word) (v : Byte) :
    Reaches s regs (events ++ [BusEvent.write a v]) (Function.update mem a v) (t.write a v) :=
  h.event rfl rfl rfl (by rw [State.memAt_write, h.memAt]) rfl

end Reaches

/-! #### The fetches (R70, R74) -/

theorem reaches_fetchOpcode (s : State) (op : Byte) :
    Reaches s { s.registers with pc := s.pc + 1 } [.fetch s.pc op] s.memAt (s.fetchOpcode op) :=
  ⟨rfl, rfl, rfl, rfl, rfl⟩

theorem reaches_fetch2 (s : State) (op b1 : Byte) :
    Reaches s { s.registers with pc := s.pc + 2 } [.fetch s.pc op, .fetch (s.pc + 1) b1] s.memAt (s.fetch2 op b1) := by
  rw [State.fetch2_eq]
  exact ⟨rfl, rfl, rfl, rfl, rfl⟩

theorem reaches_fetch3 (s : State) (op b1 b2 : Byte) :
    Reaches s { s.registers with pc := s.pc + 3 } [.fetch s.pc op, .fetch (s.pc + 1) b1, .fetch (s.pc + 2) b2] s.memAt
      (s.fetch3 op b1 b2) := by
  rw [State.fetch3_eq]
  exact ⟨rfl, rfl, rfl, rfl, rfl⟩

theorem reaches_fetchWord (s : State) (op : Byte) (w : Word) :
    Reaches s { s.registers with pc := s.pc + 3 }
      [.fetch s.pc op, .fetch (s.pc + 1) (wordLow w), .fetch (s.pc + 2) (wordHigh w)] s.memAt (s.fetchWord op w) :=
  reaches_fetch3 s op _ _

/-- A read between the fetches of the two operand bytes (R75). -/
theorem reaches_directPageSource (s : State) (op src dst : Byte) :
    Reaches s { s.registers with pc := s.pc + 3 }
      [.fetch s.pc op, .fetch (s.pc + 1) src, .read (s.dp src) (s.busAt 2 (s.dp src)), .fetch (s.pc + 2) dst] s.memAt
      (s.directPageSource op src dst).after := by
  rw [State.directPageSource_eq]
  exact ⟨rfl, rfl, rfl, rfl, rfl⟩

/-! #### What happens to the registers once the operand is at hand -/

/-- `f` changes the registers as `g` says, spends no cycle, touches nothing else, and neither looks at PC nor changes
it. -/
structure ChangesRegisters (f : State → State) (g : Registers → Registers) : Prop where
  registers : ∀ t, (f t).registers = g t.registers
  trace : ∀ t, (f t).trace = t.trace
  cycles : ∀ t, (f t).cycles = t.cycles
  memAt : ∀ t, (f t).memAt = t.memAt
  oracle : ∀ t, (f t).oracle = t.oracle
  pc : ∀ regs pc, g { regs with pc := pc } = { g regs with pc := pc }

theorem Reaches.changes {s t : State} {regs : Registers} {pc : Word} {events : List BusEvent} {mem : Word → Byte}
    {f : State → State} {g : Registers → Registers} (hf : ChangesRegisters f g)
    (h : Reaches s { regs with pc := pc } events mem t) : Reaches s { g regs with pc := pc } events mem (f t) where
  registers := by rw [hf.registers, h.registers, hf.pc]
  trace := (hf.trace t).trans h.trace
  cycles := (hf.cycles t).trans h.cycles
  memAt := (hf.memAt t).trans h.memAt
  oracle := (hf.oracle t).trans h.oracle

theorem changesRegisters_loadA (v : Byte) : ChangesRegisters (·.loadA v) (loadIntoA · v) := by
  constructor <;> intros <;> rfl
theorem changesRegisters_loadX (v : Byte) : ChangesRegisters (·.loadX v) (loadIntoX · v) := by
  constructor <;> intros <;> rfl
theorem changesRegisters_loadY (v : Byte) : ChangesRegisters (·.loadY v) (loadIntoY · v) := by
  constructor <;> intros <;> rfl

/-! #### The addressing modes (R120 to R129) -/

/-- The resolver gives the address `a`, and its cycles and those before it changed no register but PC, and no byte. -/
structure Resolves (s : State) (pc : Word) (events : List BusEvent) (a : Word) (r : Resolved) : Prop where
  addr : r.addr = a
  after : Reaches s { s.registers with pc := pc } events s.memAt r.after

section Operand

variable {s : State} {pc a : Word} {events : List BusEvent} {r : Resolved} (h : Resolves s pc events a r)
include h

theorem Resolves.value_eq : r.value = s.busAt events.length a := by
  rw [Resolved.value, h.after.bus_eq, h.addr]

theorem Resolves.read :
    Reaches s { s.registers with pc := pc } (events ++ [BusEvent.read a (s.busAt events.length a)]) s.memAt r.read := by
  rw [Resolved.read, h.addr]
  exact h.after.read a

/-- A discarded read of the destination, then the write (R140). -/
theorem Resolves.store (v : Byte) :
    Reaches s { s.registers with pc := pc }
      (events ++ [BusEvent.discard a (s.busAt events.length a)] ++ [BusEvent.write a v])
      (Function.update s.memAt a v) (r.store v) := by
  rw [Resolved.store, h.addr]
  exact (h.after.discard a).write a v

end Operand

/-- The pointer at a direct-page offset whose low byte is read `n` cycles from now, and the two reads (R126, R127). -/
def State.pointerFrom (s : State) (n : Nat) (o : Byte) : Word :=
  wordOf (s.busAt (n + 1) (s.dp (o + 1))) (s.busAt n (s.dp o))
def State.pointerReads (s : State) (n : Nat) (o : Byte) : List BusEvent :=
  [.read (s.dp o) (s.busAt n (s.dp o)), .read (s.dp (o + 1)) (s.busAt (n + 1) (s.dp (o + 1)))]

section Modes

variable {s t : State} {pc : Word} {events : List BusEvent}

/-- The index registers and the direct page are as they were while only PC moved. -/
theorem Reaches.x_eq {mem : Word → Byte} (h : Reaches s { s.registers with pc := pc } events mem t) : t.x = s.x :=
  congrArg Registers.x h.registers
theorem Reaches.y_eq {mem : Word → Byte} (h : Reaches s { s.registers with pc := pc } events mem t) : t.y = s.y :=
  congrArg Registers.y h.registers
theorem Reaches.dp_eq {mem : Word → Byte} (h : Reaches s { s.registers with pc := pc } events mem t) (o : Byte) :
    t.dp o = s.dp o := by
  have hpsw : t.psw = s.psw := congrArg Registers.psw h.registers
  rw [State.dp, hpsw, State.dp]

variable (h : Reaches s { s.registers with pc := pc } events s.memAt t)
include h

/-- The two reads of a direct-page pointer, low byte first. -/
theorem Reaches.readPointer (o : Byte) :
    Reaches s { s.registers with pc := pc } (events ++ s.pointerReads events.length o) s.memAt (t.readPointer o) := by
  have hhigh := (h.read (s.dp o)).read (s.dp (o + 1))
  rw [List.length_append, List.append_assoc] at hhigh
  rwa [State.readPointer, h.dp_eq, h.dp_eq]

/-- The pointer they give. -/
theorem Reaches.pointerAt_eq (o : Byte) : t.pointerAt o = s.pointerFrom events.length o := by
  rw [State.pointerAt, h.dp_eq, h.dp_eq, h.bus_eq, (h.read (s.dp o)).bus_eq, List.length_append]
  rfl

theorem Reaches.directPage (o : Byte) : Resolves s pc events (s.dp o) (t.directPage o) := ⟨h.dp_eq o, h⟩
theorem Reaches.directPageX (o : Byte) : Resolves s pc (events ++ [BusEvent.idle]) (s.dp (o + s.x)) (t.directPageX o) :=
  ⟨by rw [State.directPageX, h.x_eq, h.dp_eq], h.idle⟩
theorem Reaches.directPageY (o : Byte) : Resolves s pc (events ++ [BusEvent.idle]) (s.dp (o + s.y)) (t.directPageY o) :=
  ⟨by rw [State.directPageY, h.y_eq, h.dp_eq], h.idle⟩
theorem Reaches.absolute (a : Word) : Resolves s pc events a (t.absolute a) := ⟨rfl, h⟩
theorem Reaches.absoluteX (a : Word) :
    Resolves s pc (events ++ [BusEvent.idle]) (a + s.x.setWidth 16) (t.absoluteX a) :=
  ⟨by rw [State.absoluteX, h.x_eq], h.idle⟩
theorem Reaches.absoluteY (a : Word) :
    Resolves s pc (events ++ [BusEvent.idle]) (a + s.y.setWidth 16) (t.absoluteY a) :=
  ⟨by rw [State.absoluteY, h.y_eq], h.idle⟩
theorem Reaches.indirectX : Resolves s pc (events ++ [BusEvent.idle]) (s.dp s.x) t.indirectX :=
  ⟨by rw [State.indirectX, h.x_eq, h.dp_eq], h.idle⟩
theorem Reaches.absoluteBit (m : Word) : Resolves s pc events (bitAddress m) (t.absoluteBit m) := ⟨rfl, h⟩

/-- The pointer of `[dp+X]` is read after the internal cycle (R126). -/
theorem Reaches.indexedIndirect (o : Byte) :
    Resolves s pc (events ++ [BusEvent.idle] ++ s.pointerReads (events.length + 1) (o + s.x))
      (s.pointerFrom (events.length + 1) (o + s.x)) (t.indexedIndirect o) := by
  have hpointer := h.idle.pointerAt_eq (o + s.x)
  have hread := h.idle.readPointer (o + s.x)
  rw [List.length_append] at hpointer hread
  rw [State.indexedIndirect, h.x_eq]
  exact ⟨hpointer, hread⟩

/-- In a load the pointer of `[dp]+Y` is read after the internal cycle (R127). -/
theorem Reaches.indirectIndexed (o : Byte) :
    Resolves s pc (events ++ [BusEvent.idle] ++ s.pointerReads (events.length + 1) o)
      (s.pointerFrom (events.length + 1) o + s.y.setWidth 16) (t.indirectIndexed o) := by
  have hpointer := h.idle.pointerAt_eq o
  have hread := h.idle.readPointer o
  rw [List.length_append] at hpointer hread
  rw [State.indirectIndexed, h.y_eq, hpointer]
  exact ⟨rfl, hread⟩

/-- In a store it is read before the internal cycle (R127). -/
theorem Reaches.indirectIndexedStore (o : Byte) :
    Resolves s pc (events ++ s.pointerReads events.length o ++ [BusEvent.idle])
      (s.pointerFrom events.length o + s.y.setWidth 16) (t.indirectIndexedStore o) := by
  rw [State.indirectIndexedStore, h.y_eq, h.pointerAt_eq]
  exact ⟨rfl, (h.readPointer o).idle⟩

end Modes

/-! ### The forms of an operation on a byte read or given

`f t v` is what the operation does to the state `t` with its operand `v` at hand, `g` what it does to the registers. -/

section Takes

variable {f : State → Byte → State} {g : Registers → Byte → Registers} {op : Byte}
  (hf : ∀ v, ChangesRegisters (f · v) (g · v))
include hf

/-- A run that ends with the read of the operand. -/
theorem Resolves.takes {i : Instr} {s : State} {pc a : Word} {events : List BusEvent} {r : Resolved}
    (h : Resolves s pc events a r) (hexec : exec i s = .next (f r.read r.value)) :
    Runs i s { g s.registers (s.busAt events.length a) with pc := pc }
      (events ++ [BusEvent.read a (s.busAt events.length a)]) s.memAt := by
  rw [h.value_eq] at hexec
  exact (h.read.changes (hf _)).runs hexec

theorem takesImmediate_of {mk : Byte → Instr} (hexec : ∀ s imm, exec (mk imm) s = .next (f (s.fetch2 op imm) imm)) :
    TakesImmediate op mk g :=
  fun s imm => ((reaches_fetch2 s op imm).changes (hf imm)).runs (hexec s imm)

theorem takesDirect_of {mk : Byte → Instr}
    (hexec : ∀ s o, exec (mk o) s = .next
      (f ((s.fetch2 op o).directPage o).read ((s.fetch2 op o).directPage o).value)) :
    TakesDirect op mk g :=
  fun s o => ((reaches_fetch2 s op o).directPage o).takes hf (hexec s o)

theorem takesDirectIndexed_of_x {mk : Byte → Instr}
    (hexec : ∀ s o, exec (mk o) s = .next
      (f ((s.fetch2 op o).directPageX o).read ((s.fetch2 op o).directPageX o).value)) :
    TakesDirectIndexed State.x op mk g :=
  fun s o => ((reaches_fetch2 s op o).directPageX o).takes hf (hexec s o)

theorem takesDirectIndexed_of_y {mk : Byte → Instr}
    (hexec : ∀ s o, exec (mk o) s = .next
      (f ((s.fetch2 op o).directPageY o).read ((s.fetch2 op o).directPageY o).value)) :
    TakesDirectIndexed State.y op mk g :=
  fun s o => ((reaches_fetch2 s op o).directPageY o).takes hf (hexec s o)

theorem takesAbsolute_of {mk : Word → Instr}
    (hexec : ∀ s a, exec (mk a) s = .next
      (f ((s.fetchWord op a).absolute a).read ((s.fetchWord op a).absolute a).value)) :
    TakesAbsolute op mk g :=
  fun s a => ((reaches_fetchWord s op a).absolute a).takes hf (hexec s a)

theorem takesAbsoluteIndexed_of_x {mk : Word → Instr}
    (hexec : ∀ s a, exec (mk a) s = .next
      (f ((s.fetchWord op a).absoluteX a).read ((s.fetchWord op a).absoluteX a).value)) :
    TakesAbsoluteIndexed State.x op mk g :=
  fun s a => ((reaches_fetchWord s op a).absoluteX a).takes hf (hexec s a)

theorem takesAbsoluteIndexed_of_y {mk : Word → Instr}
    (hexec : ∀ s a, exec (mk a) s = .next
      (f ((s.fetchWord op a).absoluteY a).read ((s.fetchWord op a).absoluteY a).value)) :
    TakesAbsoluteIndexed State.y op mk g :=
  fun s a => ((reaches_fetchWord s op a).absoluteY a).takes hf (hexec s a)

theorem takesIndexedIndirect_of {mk : Byte → Instr}
    (hexec : ∀ s o, exec (mk o) s = .next
      (f ((s.fetch2 op o).indexedIndirect o).read ((s.fetch2 op o).indexedIndirect o).value)) :
    TakesIndexedIndirect op mk g :=
  fun s o => ((reaches_fetch2 s op o).indexedIndirect o).takes hf (hexec s o)

theorem takesIndirectIndexed_of {mk : Byte → Instr}
    (hexec : ∀ s o, exec (mk o) s = .next
      (f ((s.fetch2 op o).indirectIndexed o).read ((s.fetch2 op o).indirectIndexed o).value)) :
    TakesIndirectIndexed op mk g :=
  fun s o => ((reaches_fetch2 s op o).indirectIndexed o).takes hf (hexec s o)

theorem takesIndirectX_of {i : Instr}
    (hexec : ∀ s, exec i s = .next (f (s.fetchOpcode op).indirectX.read (s.fetchOpcode op).indirectX.value)) :
    TakesIndirectX op i g :=
  fun s => (reaches_fetchOpcode s op).indirectX.takes hf (hexec s)

end Takes

/-- Settles O20: the nine modes of one load. -/
theorem loadsOfA : Obligations.LoadsOfA :=
  ⟨takesDirect_of changesRegisters_loadA fun _ _ => rfl,
    takesAbsolute_of changesRegisters_loadA fun _ _ => rfl,
    takesIndirectX_of changesRegisters_loadA fun _ => rfl,
    takesIndexedIndirect_of changesRegisters_loadA fun _ _ => rfl,
    takesImmediate_of changesRegisters_loadA fun _ _ => rfl,
    takesDirectIndexed_of_x changesRegisters_loadA fun _ _ => rfl,
    takesAbsoluteIndexed_of_x changesRegisters_loadA fun _ _ => rfl,
    takesAbsoluteIndexed_of_y changesRegisters_loadA fun _ _ => rfl,
    takesIndirectIndexed_of changesRegisters_loadA fun _ _ => rfl⟩

/-- `X <- X + 1`, after the data cycles of the `(X)+` forms (R145, R160). -/
theorem changesRegisters_bumpX :
    ChangesRegisters (fun t => { t with x := t.x + 1 }) (fun r => { r with x := r.x + 1 }) := by
  constructor <;> intros <;> rfl

/-- Settles O21: MOV A, (X)+ is the load of A from (X), an internal cycle, and X moved on. -/
theorem loadsOfXAndYAndPostIncrementLoad : Obligations.LoadsOfXAndYAndPostIncrementLoad := by
  refine ⟨takesImmediate_of changesRegisters_loadX fun _ _ => rfl,
    takesDirect_of changesRegisters_loadX fun _ _ => rfl,
    takesDirectIndexed_of_y changesRegisters_loadX fun _ _ => rfl,
    takesAbsolute_of changesRegisters_loadX fun _ _ => rfl,
    takesImmediate_of changesRegisters_loadY fun _ _ => rfl,
    takesDirect_of changesRegisters_loadY fun _ _ => rfl,
    takesDirectIndexed_of_x changesRegisters_loadY fun _ _ => rfl,
    takesAbsolute_of changesRegisters_loadY fun _ _ => rfl, fun s => ?postIncrement⟩
  case postIncrement =>
    have h := (reaches_fetchOpcode s 0xBF).indirectX
    have hvalue : (s.fetchOpcode 0xBF).indirectX.value = s.busAt 2 (s.dp s.x) := h.value_eq
    have hread := (h.read.idle.changes (changesRegisters_loadA (s.busAt 2 (s.dp s.x)))).changes changesRegisters_bumpX
    refine hread.runs ?_
    rw [← hvalue]
    cases s
    rfl

/-! ### Stores (R140) -/

section Stores

variable {op : Byte} {reg : State → Byte}

theorem storesDirect_of {mk : Byte → Instr}
    (hexec : ∀ s o, exec (mk o) s = .next (((s.fetch2 op o).directPage o).store (reg s))) : StoresDirect op mk reg :=
  fun s o => (((reaches_fetch2 s op o).directPage o).store _).runs (hexec s o)

theorem storesDirectIndexed_of_x {mk : Byte → Instr}
    (hexec : ∀ s o, exec (mk o) s = .next (((s.fetch2 op o).directPageX o).store (reg s))) :
    StoresDirectIndexed State.x op mk reg :=
  fun s o => (((reaches_fetch2 s op o).directPageX o).store _).runs (hexec s o)

theorem storesDirectIndexed_of_y {mk : Byte → Instr}
    (hexec : ∀ s o, exec (mk o) s = .next (((s.fetch2 op o).directPageY o).store (reg s))) :
    StoresDirectIndexed State.y op mk reg :=
  fun s o => (((reaches_fetch2 s op o).directPageY o).store _).runs (hexec s o)

theorem storesAbsolute_of {mk : Word → Instr}
    (hexec : ∀ s a, exec (mk a) s = .next (((s.fetchWord op a).absolute a).store (reg s))) :
    StoresAbsolute op mk reg :=
  fun s a => (((reaches_fetchWord s op a).absolute a).store _).runs (hexec s a)

theorem storesAbsoluteIndexed_of_x {mk : Word → Instr}
    (hexec : ∀ s a, exec (mk a) s = .next (((s.fetchWord op a).absoluteX a).store (reg s))) :
    StoresAbsoluteIndexed State.x op mk reg :=
  fun s a => (((reaches_fetchWord s op a).absoluteX a).store _).runs (hexec s a)

theorem storesAbsoluteIndexed_of_y {mk : Word → Instr}
    (hexec : ∀ s a, exec (mk a) s = .next (((s.fetchWord op a).absoluteY a).store (reg s))) :
    StoresAbsoluteIndexed State.y op mk reg :=
  fun s a => (((reaches_fetchWord s op a).absoluteY a).store _).runs (hexec s a)

end Stores

/-- Settles O22: the stores at nine modes; MOV (X)+, A idles in place of the discarded read. -/
theorem storesOfA : Obligations.StoresOfA :=
  ⟨storesDirect_of fun _ _ => rfl, storesDirectIndexed_of_x fun _ _ => rfl, storesAbsolute_of fun _ _ => rfl,
    storesAbsoluteIndexed_of_x fun _ _ => rfl, storesAbsoluteIndexed_of_y fun _ _ => rfl,
    fun s => ((reaches_fetchOpcode s 0xC6).indirectX.store _).runs (by cases s; rfl),
    fun s => (((reaches_fetchOpcode s 0xAF).idle.idle.write (s.dp s.x) s.a).changes changesRegisters_bumpX).runs
      (by cases s; rfl),
    fun s o => (((reaches_fetch2 s 0xC7 o).indexedIndirect o).store _).runs (by cases s; rfl),
    fun s o => (((reaches_fetch2 s 0xD7 o).indirectIndexedStore o).store _).runs (by cases s; rfl)⟩

/-! ### Register moves -/

/-- `SP <- X` writes no flag (R179). -/
theorem changesRegisters_spOfX : ChangesRegisters (fun t => { t with sp := t.x }) (fun r => { r with sp := r.x }) := by
  constructor <;> intros <;> rfl

/-- Settles O23: six stores, and six moves that spend one internal cycle; MOV SP, X is the one that is not a load. -/
theorem storesOfXAndYAndRegisterMoves : Obligations.StoresOfXAndYAndRegisterMoves :=
  ⟨storesDirect_of fun _ _ => rfl, storesDirect_of fun _ _ => rfl, storesDirectIndexed_of_y fun _ _ => rfl,
    storesDirectIndexed_of_x fun _ _ => rfl, storesAbsolute_of fun _ _ => rfl, storesAbsolute_of fun _ _ => rfl,
    fun s => ((reaches_fetchOpcode s 0x7D).idle.changes (changesRegisters_loadA s.x)).runs (by cases s; rfl),
    fun s => ((reaches_fetchOpcode s 0xDD).idle.changes (changesRegisters_loadA s.y)).runs (by cases s; rfl),
    fun s => ((reaches_fetchOpcode s 0x5D).idle.changes (changesRegisters_loadX s.a)).runs (by cases s; rfl),
    fun s => ((reaches_fetchOpcode s 0xFD).idle.changes (changesRegisters_loadY s.a)).runs (by cases s; rfl),
    fun s => ((reaches_fetchOpcode s 0x9D).idle.changes (changesRegisters_loadX s.sp)).runs (by cases s; rfl),
    fun s => ((reaches_fetchOpcode s 0xBD).idle.changes changesRegisters_spOfX).runs (by cases s; rfl)⟩

/-! ### Words and bits -/

/-- The word at a direct-page offset whose low byte is read `n` cycles from now and whose high byte two cycles later,
and the three cycles it takes (R132). -/
def State.spacedWordFrom (s : State) (n : Nat) (o : Byte) : Word :=
  wordOf (s.busAt (n + 2) (s.dp (o + 1))) (s.busAt n (s.dp o))
def State.spacedWordReads (s : State) (n : Nat) (o : Byte) : List BusEvent :=
  [.read (s.dp o) (s.busAt n (s.dp o)), .idle, .read (s.dp (o + 1)) (s.busAt (n + 2) (s.dp (o + 1)))]

section Words

variable {s t : State} {pc : Word} {events : List BusEvent}
  (h : Reaches s { s.registers with pc := pc } events s.memAt t)
include h

theorem Reaches.spacedWordValue_eq (o : Byte) : t.spacedWordValue o = s.spacedWordFrom events.length o := by
  rw [State.spacedWordValue, h.dp_eq, h.dp_eq, h.bus_eq, (h.read (s.dp o)).idle.bus_eq, List.length_append,
    List.length_append]
  rfl

theorem Reaches.readSpacedWord (o : Byte) :
    Reaches s { s.registers with pc := pc } (events ++ s.spacedWordReads events.length o) s.memAt
      (t.readSpacedWord o) := by
  have hhigh := ((h.read (s.dp o)).idle).read (s.dp (o + 1))
  rw [List.length_append, List.length_append, List.append_assoc, List.append_assoc] at hhigh
  rwa [State.readSpacedWord, h.dp_eq, h.dp_eq]

end Words

/-- `AX <- w; SetNZ16(w)` (R182). -/
theorem changesRegisters_loadAX (w : Word) :
    ChangesRegisters (fun t => { t.setAX w with psw := t.psw.setNZ16 w })
      (fun r => { r with a := wordHigh w, x := wordLow w, psw := r.psw.setNZ16 w }) := by
  constructor <;> intros <;> rfl

/-- `C <- bit b of v` (R184). -/
theorem changesRegisters_carryOfBit (b : BitVec 3) (v : Byte) :
    ChangesRegisters (fun t => { t with psw := { t.psw with c := bitOf v b } })
      (fun r => { r with psw := { r.psw with c := v.getLsbD b.toNat } }) := by
  constructor <;> intros <;> rfl

/-- Settles O24: MOV dd, ds writes without reading its destination, MOV dp, #imm is a store, MOVW spends one cycle on
each byte, and MOV1 reads the byte of its bit. -/
theorem memoryWordAndBitMoves : Obligations.MemoryWordAndBitMoves := by
  refine ⟨fun s dst src => ?movDpDp, fun s dst imm => ?movDpImm, fun s o => ?movwAXDp, fun s o => ?movwDpAX,
    fun s m b => ?mov1CBit, fun s m b => ?mov1BitC⟩
  case movDpDp =>
    have h := reaches_directPageSource s 0xFA src dst
    refine (h.write (s.dp dst) (s.busAt 2 (s.dp src))).runs ?_
    rw [← h.dp_eq dst]
    cases s
    rfl
  case movDpImm => exact (((reaches_fetch3 s 0x8F imm dst).directPage dst).store imm).runs (by cases s; rfl)
  case movwAXDp =>
    have h := reaches_fetch2 s 0xBA o
    have hload := (h.readSpacedWord o).changes
      (changesRegisters_loadAX (wordOf (s.busAt 4 (s.dp (o + 1))) (s.busAt 2 (s.dp o))))
    have hword : (s.fetch2 0xBA o).spacedWordValue o = wordOf (s.busAt 4 (s.dp (o + 1))) (s.busAt 2 (s.dp o)) :=
      h.spacedWordValue_eq o
    rw [wordHigh_wordOf, wordLow_wordOf] at hload
    refine hload.runs ?_
    rw [← hword]
    cases s
    rfl
  case movwDpAX =>
    have h := reaches_fetch2 s 0xDA o
    refine (((h.discard (s.dp o)).write (s.dp o) s.x).write (s.dp (o + 1)) s.a).runs ?_
    rw [← h.dp_eq o, ← h.dp_eq (o + 1)]
    cases s
    rfl
  case mov1CBit =>
    exact ((reaches_fetchWord s 0xAA (bitOperand m b)).absoluteBit m).takes (changesRegisters_carryOfBit b)
      (by cases s; rfl)
  case mov1BitC =>
    have h := (reaches_fetchWord s 0xCA (bitOperand m b)).absoluteBit m
    exact (h.read.idle.write (bitAddress m) (setBit (s.busAt 3 (bitAddress m)) b s.psw.c)).runs (by cases s; rfl)

end Sys2Proof.Machine

/-! PROOFS. The control-flow instructions of 43_control_flow.md: where each continues, what it pushes and pops, and that
its two cycles more are those of a branch taken. -/

namespace Sys2Proof.Machine

/-! ### Flags and registers over the whole family (R190) -/

/-- A branch, taken or not, writes no register but PC. -/
@[simp] theorem State.branchIf_a (s : State) (taken : Bool) (d : Byte) : (s.branchIf taken d).a = s.a := by
  cases taken <;> rfl
@[simp] theorem State.branchIf_x (s : State) (taken : Bool) (d : Byte) : (s.branchIf taken d).x = s.x := by
  cases taken <;> rfl
@[simp] theorem State.branchIf_y (s : State) (taken : Bool) (d : Byte) : (s.branchIf taken d).y = s.y := by
  cases taken <;> rfl

/-- Settles O12: the conditional branches up to the branch itself, of which DBNZ Y alone writes Y; the two that write
the status word; and the jumps, calls and RET. -/
theorem controlFlowKeepsFlagsAndRegisters : Obligations.ControlFlowKeepsFlagsAndRegisters := by
  intro i s h
  cases s
  cases i with
  | bpl | bmi | bvc | bvs | bcc | bcs | bne | beq | bbs0 | bbs1 | bbs2 | bbs3 | bbs4 | bbs5 | bbs6 | bbs7
  | bbc0 | bbc1 | bbc2 | bbc3 | bbc4 | bbc5 | bbc6 | bbc7 | cbneDp | cbneDpX | dbnzDp =>
    exact ⟨_, rfl, fun _ _ => State.branchIf_psw .., State.branchIf_a .., State.branchIf_x ..,
      fun _ => State.branchIf_y ..⟩
  | dbnzY r =>
    exact ⟨_, rfl, fun _ _ => State.branchIf_psw .., State.branchIf_a .., State.branchIf_x ..,
      fun hne => absurd rfl (hne r)⟩
  | brk => exact ⟨_, rfl, fun hne => absurd rfl hne, rfl, rfl, fun _ => rfl⟩
  | reti => exact ⟨_, rfl, fun _ hne => absurd rfl hne, rfl, rfl, fun _ => rfl⟩
  | bra | jmpAbs | jmpAbsXInd | call | pcall | ret | tcall0 | tcall1 | tcall2 | tcall3 | tcall4 | tcall5 | tcall6
  | tcall7 | tcall8 | tcall9 | tcall10 | tcall11 | tcall12 | tcall13 | tcall14 | tcall15 =>
    exact ⟨_, rfl, fun _ _ => rfl, rfl, rfl, fun _ => rfl⟩
  | _ => cases h

/-! ### The steps of a control-flow run: idle cycles, a jump, a late fetch, a word read, pushes and pops -/

section Steps

variable {s t : State} {regs : Registers} {events : List BusEvent} {mem : Word → Byte}

/-- Two internal cycles more. -/
theorem Reaches.idles_two (h : Reaches s regs events mem t) :
    Reaches s regs (events ++ [.idle, .idle]) mem (t.idles 2) := by
  have hidle := h.idle.idle
  rwa [List.append_assoc] at hidle

/-- Three internal cycles more. -/
theorem Reaches.idles_three (h : Reaches s regs events mem t) :
    Reaches s regs (events ++ [.idle, .idle, .idle]) mem (t.idles 3) := by
  have hidle := h.idles_two.idle
  rwa [List.append_assoc] at hidle

/-- PC is set and nothing else. -/
theorem Reaches.jump (h : Reaches s regs events mem t) (target : Word) :
    Reaches s { regs with pc := target } events mem { t with pc := target } where
  registers := by rw [← h.registers]; rfl
  trace := h.trace
  cycles := h.cycles
  memAt := h.memAt
  oracle := h.oracle

/-- A byte of the instruction that is fetched after a data access (R200 to R204). -/
theorem Reaches.fetchOperand2 (h : Reaches s regs events mem t) {next : Word} (hnext : regs.pc + 1 = next) (v : Byte) :
    Reaches s { regs with pc := next } (events ++ [.fetch regs.pc v]) mem (t.fetchOperand2 v) where
  registers := by rw [← hnext, ← h.registers]; rfl
  trace := by rw [← h.registers, List.reverse_append, List.append_assoc, ← h.trace]; rfl
  cycles := by rw [List.length_append, ← Nat.add_assoc, ← h.cycles]; rfl
  memAt := h.memAt
  oracle := h.oracle

/-- A push writes at the stack address of SP, and SP goes down (R29). -/
theorem Reaches.push (h : Reaches s regs events mem t) {sp : Byte} (hsp : regs.sp - 1 = sp) (v : Byte) :
    Reaches s { regs with sp := sp } (events ++ [.write (wordOf 0x01 regs.sp) v])
      (Function.update mem (wordOf 0x01 regs.sp) v) (t.push v) := by
  obtain rfl := h.registers
  obtain rfl := hsp
  have hwrite := h.write t.stackAddr v
  exact ⟨rfl, hwrite.trace, hwrite.cycles, hwrite.memAt, hwrite.oracle⟩

/-- A return address goes high byte first (R29). -/
theorem Reaches.pushWord (h : Reaches s regs events mem t) (w : Word) :
    Reaches s { regs with sp := regs.sp - 2 }
      (events ++ [.write (wordOf 0x01 regs.sp) (wordHigh w), .write (wordOf 0x01 (regs.sp - 1)) (wordLow w)])
      (Function.update (Function.update mem (wordOf 0x01 regs.sp) (wordHigh w)) (wordOf 0x01 (regs.sp - 1)) (wordLow w))
      (t.pushWord w) := by
  have hsp : regs.sp - 1 - 1 = regs.sp - 2 := by bv_omega
  have hboth := (h.push rfl (wordHigh w)).push hsp (wordLow w)
  rwa [List.append_assoc] at hboth

end Steps

section Reads

variable {s t : State} {regs : Registers} {events : List BusEvent} (h : Reaches s regs events s.memAt t)
include h

/-- The two reads of a word, low byte first (R52). -/
theorem Reaches.readWord (a : Word) :
    Reaches s regs
      (events ++ [.read a (s.busAt events.length a), .read (a + 1) (s.busAt (events.length + 1) (a + 1))]) s.memAt
      (t.readWord a) := by
  have hboth := (h.read a).read (a + 1)
  rwa [List.length_append, List.append_assoc] at hboth

/-- The word they give. -/
theorem Reaches.wordValue_eq (a : Word) :
    t.wordValue a = wordOf (s.busAt (events.length + 1) (a + 1)) (s.busAt events.length a) := by
  rw [State.wordValue, h.bus_eq, (h.read a).bus_eq, List.length_append]
  rfl

/-- A pop reads at the stack address of SP raised (R29). -/
theorem Reaches.pop {sp : Byte} (hsp : regs.sp + 1 = sp) :
    Reaches s { regs with sp := sp } (events ++ [.read (wordOf 0x01 sp) (s.busAt events.length (wordOf 0x01 sp))])
      s.memAt t.pop := by
  obtain rfl := h.registers
  obtain rfl := hsp
  have hraised : Reaches s t.raiseSp.registers events s.memAt t.raiseSp :=
    ⟨rfl, h.trace, h.cycles, h.memAt, h.oracle⟩
  exact hraised.read t.raiseSp.stackAddr

/-- The byte it gives. -/
theorem Reaches.popValue_eq {sp : Byte} (hsp : regs.sp + 1 = sp) :
    t.popValue = s.busAt events.length (wordOf 0x01 sp) := by
  obtain rfl := h.registers
  obtain rfl := hsp
  exact h.bus_eq _

end Reads

/-! ### Relative branches (R130) -/

section Branches

variable {i : Instr} {s u : State} {regs : Registers} {events : List BusEvent} {mem : Word → Byte} {taken : Bool}
  {r : Byte} {P : Prop} [Decidable P]

/-- Up to the branch the run is `h`; taken, two internal cycles more and PC moves by the displacement. -/
theorem Reaches.branchesWhen (h : Reaches s regs events mem u) (hexec : exec i s = .next (u.branchIf taken r))
    (htaken : taken = decide P) :
    if P then Runs i s { regs with pc := regs.pc + r.signExtend 16 } (events ++ [.idle, .idle]) mem
    else Runs i s regs events mem := by
  subst htaken
  split
  case isTrue hP =>
    rw [decide_eq_true hP] at hexec
    have hpc : u.pc = regs.pc := congrArg Registers.pc h.registers
    rw [← hpc]
    exact (h.idles_two.jump _).runs hexec
  case isFalse hP =>
    rw [decide_eq_false hP] at hexec
    exact h.runs hexec

/-- The same, of an instruction that branches when its test fails. -/
theorem Reaches.branchesUnless (h : Reaches s regs events mem u) (hexec : exec i s = .next (u.branchIf taken r))
    (htaken : taken = !decide P) :
    if P then Runs i s regs events mem
    else Runs i s { regs with pc := regs.pc + r.signExtend 16 } (events ++ [.idle, .idle]) mem := by
  have hnot := h.branchesWhen (P := ¬ P) hexec (htaken.trans (decide_not).symm)
  rwa [ite_not] at hnot

end Branches

/-! ### Branches on a bit, on a compare and on a count (R200 to R205) -/

section BitBranches

variable {i : Instr} {s : State} {op o r : Byte} {n : Nat}

/-- BBS, BBC and CBNE dp read the byte, fetch the displacement, and spend a cycle on the test before they branch. -/
def State.testEvents (s : State) (op o r : Byte) : List BusEvent :=
  [.fetch s.pc op, .fetch (s.pc + 1) o, .read (s.dp o) (s.busAt 2 (s.dp o)), .fetch (s.pc + 2) r, .idle]

theorem reaches_directPageTest (s : State) (op o r : Byte) :
    Reaches s { s.registers with pc := s.pc + 3 } (s.testEvents op o r) s.memAt
      (s.directPageSource op o r).after.idle :=
  (reaches_directPageSource s op o r).idle

theorem State.directPageSource_value (s : State) (op src dst : Byte) :
    (s.directPageSource op src dst).value = s.busAt 2 (s.dp src) := by
  rw [State.directPageSource_eq]

/-- The bit numbers that an opcode can name. -/
theorem bitOf_ofNat (v : Byte) (hn : n < 8) : bitOf v (BitVec.ofNat 3 n) = v.getLsbD n := by
  rw [bitOf, BitVec.toNat_ofNat, Nat.mod_eq_of_lt hn]

/-- `BBS` (R200). -/
theorem runs_branchOnBitSet (hn : n < 8)
    (hexec : exec i s = .next (s.branchOnBit op o r (BitVec.ofNat 3 n) true)) :
    if (s.busAt 2 (s.dp o)).getLsbD n then
      Runs i s { s.registers with pc := s.pc + 3 + r.signExtend 16 } (s.testEvents op o r ++ [.idle, .idle]) s.memAt
    else Runs i s { s.registers with pc := s.pc + 3 } (s.testEvents op o r) s.memAt :=
  (reaches_directPageTest s op o r).branchesWhen hexec
    (by rw [State.directPageSource_value, bitOf_ofNat _ hn]; simp)

/-- `BBC` (R201). -/
theorem runs_branchOnBitClear (hn : n < 8)
    (hexec : exec i s = .next (s.branchOnBit op o r (BitVec.ofNat 3 n) false)) :
    if (s.busAt 2 (s.dp o)).getLsbD n then Runs i s { s.registers with pc := s.pc + 3 } (s.testEvents op o r) s.memAt
    else
      Runs i s { s.registers with pc := s.pc + 3 + r.signExtend 16 } (s.testEvents op o r ++ [.idle, .idle]) s.memAt :=
  (reaches_directPageTest s op o r).branchesUnless hexec
    (by rw [State.directPageSource_value, bitOf_ofNat _ hn]; simp)

end BitBranches

/-- `Y <- v`, without a flag (R205). -/
theorem changesRegisters_setY (v : Byte) :
    ChangesRegisters (fun t => { t with y := v }) (fun regs => { regs with y := v }) := by
  constructor <;> intros <;> rfl

/-- Settles O26: the cycles up to the branch, and the test it is decided by. -/
theorem bitCompareAndCountBranches : Obligations.BitCompareAndCountBranches := by
  refine ⟨?bbs, ?bbc, fun s o r => ?cbneDp, fun s o r => ?cbneDpX, fun s o r => ?dbnzDp, fun s r => ?dbnzY⟩
  case bbs =>
    intro e he s o r
    fin_cases he
    all_goals exact runs_branchOnBitSet (by decide) rfl
  case bbc =>
    intro e he s o r
    fin_cases he
    all_goals exact runs_branchOnBitClear (by decide) rfl
  case cbneDp =>
    exact (reaches_directPageTest s 0x2E o r).branchesUnless rfl (by rw [State.directPageSource_value]; rfl)
  case cbneDpX =>
    have hoperand := (reaches_fetch2 s 0xDE o).directPageX o
    have hvalue : ((s.fetch2 0xDE o).directPageX o).value = s.busAt 3 (s.dp (o + s.x)) := hoperand.value_eq
    exact ((hoperand.read.fetchOperand2 (BitVec.add_assoc s.pc 2 1) r).idle).branchesUnless rfl
      (by rw [hvalue]; rfl)
  case dbnzDp =>
    have hoperand := (reaches_fetch2 s 0x6E o).directPage o
    have hvalue : ((s.fetch2 0x6E o).directPage o).value = s.busAt 2 (s.dp o) := hoperand.value_eq
    have hstart := (hoperand.read.write (s.dp o) (s.busAt 2 (s.dp o) - 1)).fetchOperand2
      (BitVec.add_assoc s.pc 2 1) r
    refine hstart.branchesUnless (taken := s.busAt 2 (s.dp o) - 1 != 0) ?_ rfl
    rw [← hvalue, ← hoperand.addr]
    rfl
  case dbnzY =>
    have hstart := ((reaches_fetch2 s 0xFE r).idle.changes (changesRegisters_setY (s.y - 1))).idle
    exact hstart.branchesUnless rfl rfl

/-! ### Jumps, calls, the trap and returns (R206 to R213) -/

/-- `TCALL n` reads its table entry, then pushes (R210). -/
theorem runs_callTable {i : Instr} {s : State} {op : Byte} {n : Nat} {vector : Word} (hvector : callVector n = vector)
    (hexec : exec i s = .next ((s.fetchOpcode op).callTable n)) :
    let back := s.pc + 1
    let lo := s.busAt 1 vector
    let hi := s.busAt 2 (vector + 1)
    Runs i s { s.registers with pc := wordOf hi lo, sp := s.sp - 2 }
      [.fetch s.pc op, .read vector lo, .read (vector + 1) hi, .idle, .idle, .idle,
        .write (wordOf 0x01 s.sp) (wordHigh back), .write (wordOf 0x01 (s.sp - 1)) (wordLow back)]
      (Function.update (Function.update s.memAt (wordOf 0x01 s.sp) (wordHigh back))
        (wordOf 0x01 (s.sp - 1)) (wordLow back)) := by
  subst hvector
  have hfetch := reaches_fetchOpcode s op
  have hpushed := (hfetch.readWord (callVector n)).idles_three.pushWord (s.pc + 1)
  refine (hpushed.jump _).runs (hexec.trans ?_)
  rw [State.callTable, hfetch.wordValue_eq]
  rfl

/-- Settles O27: each is its cycles in order and then a jump. -/
theorem jumpsAndCalls : Obligations.JumpsAndCalls := by
  refine ⟨fun s addr => ?jmpAbs, fun s addr => ?jmpAbsXInd, fun s addr => ?call, fun s u => ?pcall, ?tcall⟩
  case jmpAbs => exact ((reaches_fetchWord s 0x5F addr).jump addr).runs rfl
  case jmpAbsXInd =>
    have hfetch := (reaches_fetchWord s 0x1F addr).idle
    refine ((hfetch.readWord (addr + s.x.setWidth 16)).jump _).runs ?_
    change execJmpAbsXInd addr s = _
    rw [execJmpAbsXInd, hfetch.wordValue_eq]
    rfl
  case call =>
    refine (((reaches_fetchWord s 0x3F addr).idles_three.pushWord (s.pc + 3)).jump addr).runs ?_
    change execCall addr s = _
    rw [execCall, State.fetchWord_eq]
  case pcall =>
    refine (((reaches_fetch2 s 0x4F u).idles_two.pushWord (s.pc + 2)).jump (wordOf 0xFF u)).runs ?_
    change execPcall u s = _
    rw [execPcall, State.fetch2_eq]
  case tcall =>
    intro e he s
    fin_cases he
    all_goals exact runs_callTable (by decide) rfl

/-- The status word is set and nothing else. -/
theorem changesRegisters_setPsw (p : Psw) :
    ChangesRegisters (fun t => { t with psw := p }) (fun regs => { regs with psw := p }) := by
  constructor <;> intros <;> rfl

/-- Settles O28: the vector is read and three bytes are pushed before PC and the status word change. -/
theorem brkTakesTheTrap : Obligations.BrkTakesTheTrap := by
  intro s
  have hsp : s.sp - 2 - 1 = s.sp - 3 := by bv_omega
  have hfetch := reaches_fetchOpcode s 0x0F
  have hpushed := ((hfetch.readWord breakVector).idles_two.pushWord (s.pc + 1)).push hsp s.psw.toByte
  have hset := (hpushed.jump (wordOf (s.busAt 2 0xFFDF) (s.busAt 1 0xFFDE))).changes
    (changesRegisters_setPsw { s.psw with b := true, i := false })
  refine hset.runs ?_
  change execBrk s = _
  rw [execBrk, State.takeBreak, hfetch.wordValue_eq]
  rfl

/-! ### The relative branches on a flag, and the returns -/

/-- A 2-byte branch whose test is on the status word alone. -/
theorem branchesWhen_of {op : Byte} {mk : Byte → Instr} {taken : Psw → Bool}
    (hexec : ∀ s r, exec (mk r) s = .next ((s.fetch2 op r).branchIf (taken s.psw) r)) : BranchesWhen op mk taken :=
  fun s r => (reaches_fetch2 s op r).branchesWhen (hexec s r) Bool.decide_eq_true.symm

/-- Settles O25: nine tests of the status word. -/
theorem relativeBranches : Obligations.RelativeBranches :=
  ⟨branchesWhen_of fun _ _ => rfl, branchesWhen_of fun _ _ => rfl, branchesWhen_of fun _ _ => rfl,
    branchesWhen_of fun _ _ => rfl, branchesWhen_of fun _ _ => rfl, branchesWhen_of fun _ _ => rfl,
    branchesWhen_of fun _ _ => rfl, branchesWhen_of fun _ _ => rfl, branchesWhen_of fun _ _ => rfl⟩

/-- Settles O29: the pops in order, each at SP raised once more, and then the jump. -/
theorem returnsPopInInverseOrder : Obligations.ReturnsPopInInverseOrder := by
  refine ⟨fun s => ?ret, fun s => ?reti⟩
  case ret =>
    have hfetch := reaches_fetchOpcode s 0x6F
    have hlow := hfetch.pop rfl
    have hhigh := hlow.pop (BitVec.add_assoc s.sp 1 1)
    refine (hhigh.idles_two.jump _).runs ?_
    change execRet s = _
    rw [execRet, State.popWordValue, hfetch.popValue_eq rfl, hlow.popValue_eq (BitVec.add_assoc s.sp 1 1)]
    rfl
  case reti =>
    have hfetch := reaches_fetchOpcode s 0x7F
    have hpsw := hfetch.pop rfl
    have hlow := hpsw.pop (BitVec.add_assoc s.sp 1 1)
    have hhigh := hlow.pop (BitVec.add_assoc s.sp 2 1)
    refine ((hhigh.idles_two.jump _).changes (changesRegisters_setPsw _)).runs ?_
    change execReti s = _
    rw [execReti, State.returnFromBreak, State.popWordValue, hfetch.popValue_eq rfl,
      hpsw.popValue_eq (BitVec.add_assoc s.sp 1 1), hlow.popValue_eq (BitVec.add_assoc s.sp 2 1)]
    rfl

end Sys2Proof.Machine

/-! PROOFS. The read-operate instructions of 44_read_operate.md: one operation in nine addressing modes, the compares of
X and Y, the words in the direct page, and a bit combined into C. -/

namespace Sys2Proof.Machine

/-! ### What the family leaves alone (R220) -/

/-- No row of the family has a write in its cycle sequence, and none is a branch. -/
theorem readOperate_row (i : Instr) :
    (readOperate i && (conditionalBranch i || (cycleSequence i).contains .w)) = false := by
  cases i <;> rfl

/-- Every event of a read-operate instruction is of a kind in its row of the table, and no row has a write. -/
theorem exec_events_of_readOperate (i : Instr) (s : State) (h : readOperate i = true) :
    ∃ (t : State) (events : List BusEvent), exec i s = .next t ∧ t.trace = events.reverse ++ s.trace ∧
      ∀ e ∈ events, e.kind ≠ .w := by
  have hrow := readOperate_row i
  simp only [h, Bool.true_and, Bool.or_eq_false_iff, List.contains_eq_mem, decide_eq_false_iff_not] at hrow
  obtain ⟨hbranch, hwrite⟩ := hrow
  obtain ⟨t, events, hexec, htrace, -, hkinds | ⟨hcond, -⟩⟩ := everyInstructionFollowsItsCycleSequence i s
  · refine ⟨t, events, hexec, htrace, fun e he hkind => hwrite ?_⟩
    rw [← hkinds, ← hkind]
    exact List.mem_map_of_mem he
  · rw [hbranch] at hcond
    contradiction

/-- A read-operate instruction writes A, X, PC, the flags and the operand latches at most. -/
theorem exec_frame_of_readOperate (i : Instr) (s : State) (h : readOperate i = true) :
    ∃ t, exec i s = .next t ∧ t.mem = s.mem ∧ t.y = s.y ∧ t.sp = s.sp := by
  cases s
  cases i with
  | orAImm | orAIndX | orADp | orADpX | orAAbs | orAAbsX | orAAbsY | orAIdxInd | orAIndIdx
  | andAImm | andAIndX | andADp | andADpX | andAAbs | andAAbsX | andAAbsY | andAIdxInd | andAIndIdx
  | eorAImm | eorAIndX | eorADp | eorADpX | eorAAbs | eorAAbsX | eorAAbsY | eorAIdxInd | eorAIndIdx
  | cmpAImm | cmpAIndX | cmpADp | cmpADpX | cmpAAbs | cmpAAbsX | cmpAAbsY | cmpAIdxInd | cmpAIndIdx
  | adcAImm | adcAIndX | adcADp | adcADpX | adcAAbs | adcAAbsX | adcAAbsY | adcAIdxInd | adcAIndIdx
  | sbcAImm | sbcAIndX | sbcADp | sbcADpX | sbcAAbs | sbcAAbsX | sbcAAbsY | sbcAIdxInd | sbcAIndIdx
  | cmpXImm | cmpXDp | cmpXAbs | cmpYImm | cmpYDp | cmpYAbs | addwAXDp | subwAXDp | cmpwAXDp
  | and1CBit | and1CNotBit | or1CBit | or1CNotBit | eor1CBit => exact ⟨_, rfl, rfl, rfl, rfl⟩
  | _ => cases h

/-- Settles O13: the frame of the family, and the events of its rows in the timing table. -/
theorem readOperateWritesNoMemory : Obligations.ReadOperateWritesNoMemory := by
  intro i s h
  obtain ⟨t, hexec, hmem, hy, hsp⟩ := exec_frame_of_readOperate i s h
  obtain ⟨u, events, hrun, htrace, hkinds⟩ := exec_events_of_readOperate i s h
  obtain rfl := Host.Outcome.next.inj (hexec.symm.trans hrun)
  exact ⟨t, events, hexec, fun b => by rw [State.memAt, hmem, State.memAt], hy, hsp, htrace, hkinds⟩

/-! ### One operation in the nine modes of an accumulator instruction -/

/-- Each of the nine forms is its fetches, its resolver, the read of the operand `v`, and then `f t v`. -/
structure ExecutesForms (row : Byte) (imm dp dpX idxInd indIdx : Byte → Instr) (abs absX absY : Word → Instr)
    (indX : Instr) (f : State → Byte → State) : Prop where
  immediate : ∀ s v, exec (imm v) s = .next (f (s.fetch2 (row + 0x08) v) v)
  direct : ∀ s o, exec (dp o) s = .next
    (f ((s.fetch2 (row + 0x04) o).directPage o).read ((s.fetch2 (row + 0x04) o).directPage o).value)
  directX : ∀ s o, exec (dpX o) s = .next
    (f ((s.fetch2 (row + 0x14) o).directPageX o).read ((s.fetch2 (row + 0x14) o).directPageX o).value)
  indexedIndirect : ∀ s o, exec (idxInd o) s = .next
    (f ((s.fetch2 (row + 0x07) o).indexedIndirect o).read ((s.fetch2 (row + 0x07) o).indexedIndirect o).value)
  indirectIndexed : ∀ s o, exec (indIdx o) s = .next
    (f ((s.fetch2 (row + 0x17) o).indirectIndexed o).read ((s.fetch2 (row + 0x17) o).indirectIndexed o).value)
  absolute : ∀ s a, exec (abs a) s = .next
    (f ((s.fetchWord (row + 0x05) a).absolute a).read ((s.fetchWord (row + 0x05) a).absolute a).value)
  absoluteX : ∀ s a, exec (absX a) s = .next
    (f ((s.fetchWord (row + 0x15) a).absoluteX a).read ((s.fetchWord (row + 0x15) a).absoluteX a).value)
  absoluteY : ∀ s a, exec (absY a) s = .next
    (f ((s.fetchWord (row + 0x16) a).absoluteY a).read ((s.fetchWord (row + 0x16) a).absoluteY a).value)
  indirectX : ∀ s, exec indX s = .next
    (f (s.fetchOpcode (row + 0x06)).indirectX.read (s.fetchOpcode (row + 0x06)).indirectX.value)

/-- What `f` does to the registers is what each of the nine forms does to them. -/
theorem accumulatorForms_of {row : Byte} {imm dp dpX idxInd indIdx : Byte → Instr} {abs absX absY : Word → Instr}
    {indX : Instr} {f : State → Byte → State} {g : Registers → Byte → Registers}
    (hf : ∀ v, ChangesRegisters (f · v) (g · v))
    (h : ExecutesForms row imm dp dpX idxInd indIdx abs absX absY indX f) :
    AccumulatorForms row imm dp dpX idxInd indIdx abs absX absY indX g :=
  ⟨takesDirect_of hf h.direct, takesAbsolute_of hf h.absolute, takesIndirectX_of hf h.indirectX,
    takesIndexedIndirect_of hf h.indexedIndirect, takesImmediate_of hf h.immediate,
    takesDirectIndexed_of_x hf h.directX, takesAbsoluteIndexed_of_x hf h.absoluteX,
    takesAbsoluteIndexed_of_y hf h.absoluteY, takesIndirectIndexed_of hf h.indirectIndexed⟩

/-- `A <- f(A, v)` (R220). -/
theorem changesRegisters_combineA (f : Byte → Byte → Psw → Alu8) (v : Byte) :
    ChangesRegisters (·.combineA f v) (combineIntoA f · v) := by
  constructor <;> intros <;> rfl

/-- `CMP(reg, v)` for a register that is not PC (R220). -/
theorem changesRegisters_compare {reg : Registers → Byte} (hreg : ∀ regs pc, reg { regs with pc := pc } = reg regs)
    (v : Byte) : ChangesRegisters (fun t => t.compare (reg t.registers) v) (compareWith reg · v) where
  registers _ := rfl
  trace _ := rfl
  cycles _ := rfl
  memAt _ := rfl
  oracle _ := rfl
  pc regs pc := by rw [compareWith, hreg, compareWith]

/-- Settles O31: each form ends in `A <- OR(A, v)`. -/
theorem orInNineForms : Obligations.OrInNineForms :=
  accumulatorForms_of (changesRegisters_combineA aluOr) (by constructor <;> intros <;> rfl)

/-- Settles O32: each form ends in `A <- AND(A, v)`. -/
theorem andInNineForms : Obligations.AndInNineForms :=
  accumulatorForms_of (changesRegisters_combineA aluAnd) (by constructor <;> intros <;> rfl)

/-- Settles O33: each form ends in `A <- EOR(A, v)`. -/
theorem eorInNineForms : Obligations.EorInNineForms :=
  accumulatorForms_of (changesRegisters_combineA aluEor) (by constructor <;> intros <;> rfl)

/-- Settles O34: what is compared is A after the cycles of the form, none of which changes A. -/
theorem cmpInNineForms : Obligations.CmpInNineForms :=
  accumulatorForms_of (changesRegisters_compare (reg := Registers.a) fun _ _ => rfl) <| by
    constructor
    all_goals
      intro s
      cases s
      intros
      rfl

/-- Settles O35: each form ends in `A <- ADC(A, v)`. -/
theorem adcInNineForms : Obligations.AdcInNineForms :=
  accumulatorForms_of (changesRegisters_combineA aluAdc) (by constructor <;> intros <;> rfl)

/-- Settles O36: each form ends in `A <- SBC(A, v)`. -/
theorem sbcInNineForms : Obligations.SbcInNineForms :=
  accumulatorForms_of (changesRegisters_combineA aluSbc) (by constructor <;> intros <;> rfl)

/-! ### The pair AX and a word in the direct page (R281 to R283) -/

/-- `AX <- f(AX, w)`. -/
theorem changesRegisters_combineAX (f : Word → Word → Psw → Alu16) (w : Word) :
    ChangesRegisters (fun t => { t.setAX (f t.ax w t.psw).value with psw := (f t.ax w t.psw).psw })
      (fun r => { r with
        a := wordHigh (f (wordOf r.a r.x) w r.psw).value
        x := wordLow (f (wordOf r.a r.x) w r.psw).value
        psw := (f (wordOf r.a r.x) w r.psw).psw }) := by
  constructor <;> intros <;> rfl

/-- `CMPW(AX, w)`: the flags alone. -/
theorem changesRegisters_compareAX (w : Word) :
    ChangesRegisters (fun t => { t with psw := aluCmpw t.ax w t.psw })
      (fun r => { r with psw := aluCmpw (wordOf r.a r.x) w r.psw }) := by
  constructor <;> intros <;> rfl

/-- ADDW and SUBW: the word is read with an internal cycle between its bytes, and goes into AX. -/
theorem runs_combineAX {i : Instr} {s : State} {op o : Byte} {f : Word → Word → Psw → Alu16}
    (hexec : exec i s = .next
      { ((s.fetch2 op o).readSpacedWord o).setAX (f s.ax ((s.fetch2 op o).spacedWordValue o) s.psw).value with
        psw := (f s.ax ((s.fetch2 op o).spacedWordValue o) s.psw).psw }) :
    let lo := s.busAt 2 (s.dp o)
    let hi := s.busAt 4 (s.dp (o + 1))
    let res := f (wordOf s.a s.x) (wordOf hi lo) s.psw
    Runs i s { s.registers with pc := s.pc + 2, a := wordHigh res.value, x := wordLow res.value, psw := res.psw }
      [.fetch s.pc op, .fetch (s.pc + 1) o, .read (s.dp o) lo, .idle, .read (s.dp (o + 1)) hi] s.memAt := by
  have h := reaches_fetch2 s op o
  refine ((h.readSpacedWord o).changes (changesRegisters_combineAX f (s.spacedWordFrom 2 o))).runs (hexec.trans ?_)
  rw [h.spacedWordValue_eq o]
  cases s
  rfl

/-- Settles O37: three modes of two compares; ADDW and SUBW are one run, and CMPW reads its word as a
pointer is read. -/
theorem indexComparesAndWordArithmetic : Obligations.IndexComparesAndWordArithmetic := by
  have hx := changesRegisters_compare (reg := Registers.x) fun _ _ => rfl
  have hy := changesRegisters_compare (reg := Registers.y) fun _ _ => rfl
  refine ⟨takesImmediate_of hx fun s _ => by cases s; rfl, takesDirect_of hx fun s _ => by cases s; rfl,
    takesAbsolute_of hx fun s _ => by cases s; rfl, takesImmediate_of hy fun s _ => by cases s; rfl,
    takesDirect_of hy fun s _ => by cases s; rfl, takesAbsolute_of hy fun s _ => by cases s; rfl,
    ?addwSubw, fun s o => ?cmpw⟩
  case addwSubw =>
    intro e he s o
    fin_cases he
    all_goals exact runs_combineAX rfl
  case cmpw =>
    have h := reaches_fetch2 s 0x5A o
    refine ((h.readPointer o).changes (changesRegisters_compareAX (s.pointerFrom 2 o))).runs ?_
    change execCmpwAXDp o s = _
    rw [execCmpwAXDp, h.pointerAt_eq o]
    cases s
    rfl

/-! ### A bit combined into C (R284 to R288) -/

/-- `C <- f(C, bit b of v)`. -/
theorem changesRegisters_combineCarry (f : Bool → Bool → Bool) (b : BitVec 3) (v : Byte) :
    ChangesRegisters (fun t => { t with psw := { t.psw with c := f t.psw.c (bitOf v b) } })
      (fun r => { r with psw := { r.psw with c := f r.psw.c (v.getLsbD b.toNat) } }) := by
  constructor <;> intros <;> rfl

/-- Internal cycles, however many. -/
theorem Reaches.idles {s t : State} {regs : Registers} {events : List BusEvent} {mem : Word → Byte}
    (h : Reaches s regs events mem t) (n : Nat) :
    Reaches s regs (events ++ List.replicate n .idle) mem (t.idles n) where
  registers := h.registers
  trace := by rw [State.idles_trace, h.trace, List.reverse_append, List.reverse_replicate, List.append_assoc]
  cycles := by rw [State.idles_cycles, h.cycles, List.length_append, List.length_replicate, Nat.add_assoc]
  memAt := h.memAt
  oracle := h.oracle

/-- The byte of the bit is read, `n` internal cycles pass, and C is combined with the bit. -/
theorem runs_combineCarry {i : Instr} {s : State} {op : Byte} {n : Nat} {m : Word} {b : BitVec 3}
    {f : Bool → Bool → Bool}
    (hexec : exec i s = .next
      { ((s.fetchBit op m b).absoluteBit m).read.idles n with
        psw := { s.psw with c := f s.psw.c (bitOf ((s.fetchBit op m b).absoluteBit m).value b) } }) :
    let w := bitOperand m b
    let v := s.busAt 3 (bitAddress m)
    Runs i s { s.registers with pc := s.pc + 3, psw := { s.psw with c := f s.psw.c (v.getLsbD b.toNat) } }
      ([.fetch s.pc op, .fetch (s.pc + 1) (wordLow w), .fetch (s.pc + 2) (wordHigh w), .read (bitAddress m) v] ++
        List.replicate n .idle) s.memAt := by
  have h := (reaches_fetchWord s op (bitOperand m b)).absoluteBit m
  have hvalue : ((s.fetchBit op m b).absoluteBit m).value = s.busAt 3 (bitAddress m) := h.value_eq
  rw [hvalue] at hexec
  exact ((h.read.idles n).changes (changesRegisters_combineCarry f b _)).runs hexec

/-- Settles O38: the five differ in how C is combined and in the internal cycle of OR1 and EOR1. -/
theorem bitOperationsIntoCarry : Obligations.BitOperationsIntoCarry := by
  intro e he s m b
  have hexec : exec (e.2.2.1 m b) s = .next
      { ((s.fetchBit e.1 m b).absoluteBit m).read.idles e.2.1 with
        psw := { s.psw with
          c := e.2.2.2 s.psw.c (bitOf ((s.fetchBit e.1 m b).absoluteBit m).value b) } } := by
    fin_cases he
    all_goals rfl
  exact runs_combineCarry hexec

end Sys2Proof.Machine

/-! PROOFS. The read-modify-write instructions of 45_read_modify_write.md: a byte changed where it lies, a register in
place of it, a word changed a byte at a time, and two operands of which one is in memory. -/

namespace Sys2Proof.Machine

/-! ### A byte read and written back (R58, R290) -/

section Rewrites

variable {s t : State} {pc a : Word} {events : List BusEvent}

/-- The status word is as it was while only PC moved. -/
theorem Reaches.psw_eq {mem : Word → Byte} (h : Reaches s { s.registers with pc := pc } events mem t) :
    t.psw = s.psw :=
  congrArg Registers.psw h.registers

/-- The status word is set once the cycles have passed. -/
theorem Reaches.setPsw {mem : Word → Byte} (h : Reaches s { s.registers with pc := pc } events mem t) (p : Psw) :
    Reaches s { s.registers with pc := pc, psw := p } events mem { t with psw := p } :=
  h.changes (changesRegisters_setPsw p)

/-- The read, then the write of `g` of it, with the flags as they were. -/
theorem Resolves.rewrite {r : Resolved} (h : Resolves s pc events a r) (g : Byte → Byte) :
    Reaches s { s.registers with pc := pc }
      (events ++ [BusEvent.read a (s.busAt events.length a)] ++ [BusEvent.write a (g (s.busAt events.length a))])
      (Function.update s.memAt a (g (s.busAt events.length a))) (r.rewrite g) := by
  rw [Resolved.rewrite, h.value_eq, h.addr]
  exact h.read.write a _

/-- The same, with the flags that `f` gives. -/
theorem Resolves.modify {r : Resolved} (h : Resolves s pc events a r) (f : Byte → Psw → Alu8) :
    Reaches s { s.registers with pc := pc, psw := (f (s.busAt events.length a) s.psw).psw }
      (events ++ [BusEvent.read a (s.busAt events.length a)] ++
        [BusEvent.write a (f (s.busAt events.length a) s.psw).value])
      (Function.update s.memAt a (f (s.busAt events.length a) s.psw).value) (r.modify f) := by
  rw [Resolved.modify, h.value_eq, h.addr, h.read.psw_eq]
  exact (h.read.write a _).setPsw _

end Rewrites

/-! ### The four forms of a shift, a rotate, an increment or a decrement -/

/-- `A <- f(A)`, and the same for X and Y (R291, R315, R317). -/
theorem changesRegisters_modifyA (f : Byte → Psw → Alu8) :
    ChangesRegisters (fun t => { t with a := (f t.a t.psw).value, psw := (f t.a t.psw).psw })
      (fun r => { r with a := (f r.a r.psw).value, psw := (f r.a r.psw).psw }) := by
  constructor <;> intros <;> rfl
theorem changesRegisters_modifyX (f : Byte → Psw → Alu8) :
    ChangesRegisters (fun t => { t with x := (f t.x t.psw).value, psw := (f t.x t.psw).psw })
      (fun r => { r with x := (f r.x r.psw).value, psw := (f r.x r.psw).psw }) := by
  constructor <;> intros <;> rfl
theorem changesRegisters_modifyY (f : Byte → Psw → Alu8) :
    ChangesRegisters (fun t => { t with y := (f t.y t.psw).value, psw := (f t.y t.psw).psw })
      (fun r => { r with y := (f r.y r.psw).value, psw := (f r.y r.psw).psw }) := by
  constructor <;> intros <;> rfl

/-- Each of the four forms is its fetches, its resolver, and `f` at the address or in A. -/
structure ExecutesModifyForms (row : Byte) (dp dpX : Byte → Instr) (abs : Word → Instr) (acc : Instr)
    (f : Byte → Psw → Alu8) : Prop where
  direct : ∀ s o, exec (dp o) s = .next (((s.fetch2 (row + 0x0B) o).directPage o).modify f)
  absolute : ∀ s a, exec (abs a) s = .next (((s.fetchWord (row + 0x0C) a).absolute a).modify f)
  directX : ∀ s o, exec (dpX o) s = .next (((s.fetch2 (row + 0x1B) o).directPageX o).modify f)
  accumulator : ∀ s, exec acc s = .next ((s.fetchOpcode (row + 0x1C)).modifyA f)

theorem modifyForms_of {row : Byte} {dp dpX : Byte → Instr} {abs : Word → Instr} {acc : Instr}
    {f : Byte → Psw → Alu8} (h : ExecutesModifyForms row dp dpX abs acc f) : ModifyForms row dp dpX abs acc f :=
  ⟨fun s o => (((reaches_fetch2 s _ o).directPage o).modify f).runs (h.direct s o),
    fun s a => (((reaches_fetchWord s _ a).absolute a).modify f).runs (h.absolute s a),
    fun s o => (((reaches_fetch2 s _ o).directPageX o).modify f).runs (h.directX s o),
    fun s => ((reaches_fetchOpcode s _).idle.changes (changesRegisters_modifyA f)).runs (h.accumulator s)⟩

/-- Settles O39: both instructions are the four forms of their primitive. -/
theorem shiftsLeftAndRotatesLeft : Obligations.ShiftsLeftAndRotatesLeft :=
  ⟨modifyForms_of (by constructor <;> intros <;> rfl), modifyForms_of (by constructor <;> intros <;> rfl)⟩

/-- Settles O40: both instructions are the four forms of their primitive. -/
theorem shiftsRightAndRotatesRight : Obligations.ShiftsRightAndRotatesRight :=
  ⟨modifyForms_of (by constructor <;> intros <;> rfl), modifyForms_of (by constructor <;> intros <;> rfl)⟩

/-- Settles O41: the four forms of DEC and of INC, and the same primitives on X and on Y. -/
theorem incrementsAndDecrements : Obligations.IncrementsAndDecrements :=
  ⟨modifyForms_of (f := aluDec) (by constructor <;> intros <;> rfl),
    modifyForms_of (f := aluInc) (by constructor <;> intros <;> rfl),
    fun s => ((reaches_fetchOpcode s 0x3D).idle.changes (changesRegisters_modifyX aluInc)).runs rfl,
    fun s => ((reaches_fetchOpcode s 0x1D).idle.changes (changesRegisters_modifyX aluDec)).runs rfl,
    fun s => ((reaches_fetchOpcode s 0xFC).idle.changes (changesRegisters_modifyY aluInc)).runs rfl,
    fun s => ((reaches_fetchOpcode s 0xDC).idle.changes (changesRegisters_modifyY aluDec)).runs rfl⟩

/-! ### A word changed a byte at a time, and the bits that A names (R319 to R322) -/

section BumpWord

variable {s t : State} {pc : Word} {events : List BusEvent}

/-- What the bus answers after some cycles without a write and `k` more. -/
theorem Reaches.busAt_eq {regs : Registers} (h : Reaches s regs events s.memAt t) (k : Nat) (a : Word) :
    t.busAt k a = s.busAt (events.length + k) a := by
  have hmem : memByte t.mem a.toNat = memByte s.mem a.toNat := congrFun h.memAt a
  rw [State.busAt, State.busAt, busAnswer, busAnswer, h.oracle, h.cycles, hmem, Nat.add_assoc]

/-- The word with its low byte read `n` cycles from now and its high byte two cycles later, moved by `delta`, and the
four cycles in which it is written back. -/
def State.bumpedWord (s : State) (n : Nat) (o : Byte) (delta : Word) : Word :=
  wordOf (s.busAt (n + 2) (s.dp (o + 1))) (s.busAt n (s.dp o)) + delta
def State.bumpEvents (s : State) (n : Nat) (o : Byte) (delta : Word) : List BusEvent :=
  [.read (s.dp o) (s.busAt n (s.dp o)), .write (s.dp o) (wordLow (s.bumpedWord n o delta)),
    .read (s.dp (o + 1)) (s.busAt (n + 2) (s.dp (o + 1))),
    .write (s.dp (o + 1)) (wordHigh (s.bumpedWord n o delta))]

/-- The write of the low byte is at another address than the read of the high byte, so the word is the one that lay
there before. -/
theorem Reaches.bumpWord (h : Reaches s { s.registers with pc := pc } events s.memAt t) (o : Byte) (delta : Word) :
    Reaches s { s.registers with pc := pc, psw := s.psw.setNZ16 (s.bumpedWord events.length o delta) }
      (events ++ s.bumpEvents events.length o delta)
      (Function.update (Function.update s.memAt (s.dp o) (wordLow (s.bumpedWord events.length o delta)))
        (s.dp (o + 1)) (wordHigh (s.bumpedWord events.length o delta))) (t.bumpWord o delta) := by
  have hlow : t.busAt 0 (s.dp o) = s.busAt events.length (s.dp o) := h.busAt_eq 0 _
  rw [State.bumpWord_eq, h.dp_eq, h.dp_eq, hlow, h.busAt_eq, h.psw_eq]
  exact {
    registers := congrArg (fun r => { r with psw := s.psw.setNZ16 (s.bumpedWord events.length o delta) }) h.registers
    trace := by simp only [h.trace, List.reverse_append, List.append_assoc]; rfl
    cycles := by rw [List.length_append, ← Nat.add_assoc, ← h.cycles]; rfl
    memAt := by
      funext b
      have hmem : memByte t.mem b.toNat = s.memAt b := congrFun h.memAt b
      simp only [State.memAt, memByte_memStore, Function.update_apply, hmem]
      rfl
    oracle := h.oracle }

end BumpWord

/-- `TSET1` and `TCLR1`: `g` of the byte and A is written after a discarded read, and the flags are those of A minus
the byte (R321, R322). -/
theorem runs_testBits {i : Instr} {s : State} {op : Byte} {addr : Word} {g : Byte → Byte → Byte}
    (hexec : exec i s = .next
      { (((s.fetchWord op addr).absolute addr).read.discardRead addr).write addr
          (g ((s.fetchWord op addr).absolute addr).value s.a) with
        psw := s.psw.setNZ8 (s.a - ((s.fetchWord op addr).absolute addr).value) }) :
    let v := s.busAt 3 addr
    Runs i s { s.registers with pc := s.pc + 3, psw := s.psw.setNZ8 (s.a - v) }
      [.fetch s.pc op, .fetch (s.pc + 1) (wordLow addr), .fetch (s.pc + 2) (wordHigh addr), .read addr v,
        .discard addr (s.busAt 4 addr), .write addr (g v s.a)]
      (Function.update s.memAt addr (g v s.a)) := by
  have h := (reaches_fetchWord s op addr).absolute addr
  have hvalue : ((s.fetchWord op addr).absolute addr).value = s.busAt 3 addr := h.value_eq
  rw [hvalue] at hexec
  exact (((h.read.discard addr).write addr (g (s.busAt 3 addr) s.a)).setPsw _).runs hexec

/-- Settles O42: INCW and DECW are one run with two steps, TSET1 and TCLR1 one run with two ways to write the bits. -/
theorem wordStepsAndTestedBits : Obligations.WordStepsAndTestedBits := by
  refine ⟨?wordSteps, ?testedBits⟩
  case wordSteps =>
    intro e he s o
    have hexec : exec (e.2.2 o) s = .next ((s.fetch2 e.1 o).bumpWord o e.2.1) := by
      fin_cases he
      all_goals rfl
    exact ((reaches_fetch2 s e.1 o).bumpWord o e.2.1).runs hexec
  case testedBits =>
    intro e he s addr
    fin_cases he
    all_goals exact runs_testBits rfl

/-! ### One bit of a byte (R323 to R325) -/

/-- A direct-page byte rewritten as `g` says. -/
theorem runs_rewriteDirect {i : Instr} {s : State} {op o : Byte} {g : Byte → Byte}
    (hexec : exec i s = .next (((s.fetch2 op o).directPage o).rewrite g)) :
    let v := s.busAt 2 (s.dp o)
    Runs i s { s.registers with pc := s.pc + 2 }
      [.fetch s.pc op, .fetch (s.pc + 1) o, .read (s.dp o) v, .write (s.dp o) (g v)]
      (Function.update s.memAt (s.dp o) (g v)) :=
  (((reaches_fetch2 s op o).directPage o).rewrite g).runs hexec

/-- Settles O43: each is the read of the byte of its bit and the write of the byte with that bit changed. -/
theorem singleBitWrites : Obligations.SingleBitWrites := by
  refine ⟨?set1, ?clr1, fun s m b => ?not1⟩
  case set1 =>
    intro e he s o
    have hexec : exec (e.2.2 o) s = .next
        (((s.fetch2 e.1 o).directPage o).rewrite (· ||| (1 : Byte) <<< e.2.1)) := by
      fin_cases he
      all_goals rfl
    exact runs_rewriteDirect hexec
  case clr1 =>
    intro e he s o
    have hexec : exec (e.2.2 o) s = .next
        (((s.fetch2 e.1 o).directPage o).rewrite (· &&& (0xFF ^^^ (1 : Byte) <<< e.2.1))) := by
      fin_cases he
      all_goals rfl
    exact runs_rewriteDirect hexec
  case not1 =>
    exact (((reaches_fetchWord s 0xEA (bitOperand m b)).absoluteBit m).rewrite (· ^^^ bitMask b)).runs rfl

/-! ### Two operands, the destination in memory (R326 to R343) -/

/-- The source is the byte `v`, and its cycles and those before it changed no register but PC, and no byte. -/
structure Sources (s : State) (pc : Word) (events : List BusEvent) (v : Byte) (src : Sourced) : Prop where
  value : src.value = v
  after : Reaches s { s.registers with pc := pc } events s.memAt src.after

section Sources

theorem sources_directPage (s : State) (op src dst : Byte) :
    Sources s (s.pc + 3)
      [.fetch s.pc op, .fetch (s.pc + 1) src, .read (s.dp src) (s.busAt 2 (s.dp src)), .fetch (s.pc + 2) dst]
      (s.busAt 2 (s.dp src)) (s.directPageSource op src dst) :=
  ⟨s.directPageSource_value op src dst, reaches_directPageSource s op src dst⟩

theorem sources_immediate (s : State) (op imm dst : Byte) :
    Sources s (s.pc + 3) [.fetch s.pc op, .fetch (s.pc + 1) imm, .fetch (s.pc + 2) dst] imm
      (s.immediateSource op imm dst) :=
  ⟨rfl, reaches_fetch3 s op imm dst⟩

theorem sources_indirectY (s : State) (op : Byte) :
    Sources s (s.pc + 1) [.fetch s.pc op, .idle, .read (s.dp s.y) (s.busAt 2 (s.dp s.y))] (s.busAt 2 (s.dp s.y))
      (s.fetchOpcode op).indirectYSource :=
  have h := (reaches_fetchOpcode s op).idle
  ⟨h.bus_eq _, h.read _⟩

variable {s : State} {pc : Word} {events : List BusEvent} {v : Byte} {src : Sourced} (h : Sources s pc events v src)
include h

/-- The destination is read after the source, and `f` of the two written there. -/
theorem Sources.combineAt (f : Byte → Byte → Psw → Alu8) (dest : Word) :
    Reaches s { s.registers with pc := pc, psw := (f (s.busAt events.length dest) v s.psw).psw }
      (events ++ [BusEvent.read dest (s.busAt events.length dest)] ++
        [BusEvent.write dest (f (s.busAt events.length dest) v s.psw).value])
      (Function.update s.memAt dest (f (s.busAt events.length dest) v s.psw).value) (src.combineAt f dest) := by
  have hdest : Resolves s pc events dest ⟨dest, src.after⟩ := ⟨rfl, h.after⟩
  rw [Sourced.combineAt, h.value]
  exact hdest.modify fun t p => f t v p

/-- A comparison ends in an internal cycle in place of the write (R335 to R337). -/
theorem Sources.compareAt (dest : Word) :
    Reaches s { s.registers with pc := pc, psw := aluCmp (s.busAt events.length dest) v s.psw }
      (events ++ [BusEvent.read dest (s.busAt events.length dest)] ++ [BusEvent.idle]) s.memAt
      (src.compareAt dest) := by
  have hdest : Resolves s pc events dest ⟨dest, src.after⟩ := ⟨rfl, h.after⟩
  rw [Sourced.compareAt, h.value, hdest.value_eq, State.compare, hdest.read.psw_eq]
  exact (hdest.read.setPsw _).idle

end Sources

/-- Each of the three forms is its source, and `f` of the destination and the source at the destination. -/
structure ExecutesMemoryDestinationForms (row : Byte) (dpDp dpImm : Byte → Byte → Instr) (indXIndY : Instr)
    (f : Byte → Byte → Psw → Alu8) : Prop where
  directPage : ∀ s dst src, exec (dpDp dst src) s =
    .next ((s.directPageSource (row + 0x09) src dst).combineAt f (s.dp dst))
  immediate : ∀ s dst imm, exec (dpImm dst imm) s =
    .next ((s.immediateSource (row + 0x18) imm dst).combineAt f (s.dp dst))
  indirect : ∀ s, exec indXIndY s =
    .next ((s.fetchOpcode (row + 0x19)).indirectYSource.combineAt f (s.dp s.x))

theorem memoryDestinationForms_of {row : Byte} {dpDp dpImm : Byte → Byte → Instr} {indXIndY : Instr}
    {f : Byte → Byte → Psw → Alu8} (h : ExecutesMemoryDestinationForms row dpDp dpImm indXIndY f) :
    MemoryDestinationForms row dpDp dpImm indXIndY f :=
  ⟨fun s dst src => ((sources_directPage s _ src dst).combineAt f _).runs (h.directPage s dst src),
    fun s dst imm => ((sources_immediate s _ imm dst).combineAt f _).runs (h.immediate s dst imm),
    fun s => ((sources_indirectY s _).combineAt f _).runs (h.indirect s)⟩

/-- Settles O44: the three forms of OR, AND and EOR, and CMP from the same three sources. -/
theorem logicAndCompareAtMemoryDestination : Obligations.LogicAndCompareAtMemoryDestination :=
  ⟨memoryDestinationForms_of (by constructor <;> intros <;> rfl),
    memoryDestinationForms_of (by constructor <;> intros <;> rfl),
    memoryDestinationForms_of (by constructor <;> intros <;> rfl),
    fun s dst src => ((sources_directPage s 0x69 src dst).compareAt (s.dp dst)).runs rfl,
    fun s dst imm => ((sources_immediate s 0x78 imm dst).compareAt (s.dp dst)).runs rfl,
    fun s => ((sources_indirectY s 0x79).compareAt (s.dp s.x)).runs rfl⟩

/-- Settles O45: the three forms of ADC and of SBC. -/
theorem addAndSubtractAtMemoryDestination : Obligations.AddAndSubtractAtMemoryDestination :=
  ⟨memoryDestinationForms_of (by constructor <;> intros <;> rfl),
    memoryDestinationForms_of (by constructor <;> intros <;> rfl)⟩

end Sys2Proof.Machine

/-! PROOFS. The miscellaneous instructions of 46_misc.md: those that only spend internal cycles and change registers,
and the pushes and pops. -/

namespace Sys2Proof.Machine

/-! ### Instructions inside the processor (R351 to R364, R373, R374) -/

/-- Such an instruction is its opcode fetch, its internal cycles, and a change of registers. -/
theorem runsInside_of {op : Byte} {n : Nat} {i : Instr} {f : State → State} {g : Registers → Registers}
    (hf : ChangesRegisters f g) (hexec : ∀ s, exec i s = .next (f ((s.fetchOpcode op).idles n))) :
    RunsInside op n i g :=
  fun s => (((reaches_fetchOpcode s op).idles n).changes hf).runs (hexec s)

/-- The change of NOP (R351). -/
theorem changesRegisters_none : ChangesRegisters (fun t => t) (fun r => r) := by
  constructor <;> intros <;> rfl

/-- HALT is set (R352, R353). -/
theorem changesRegisters_setHalt :
    ChangesRegisters (fun t => { t with halt := true }) (fun r => { r with halt := true }) := by
  constructor <;> intros <;> rfl

/-- The two nibbles of a byte exchanged are its rotation by four bits (R354). -/
theorem shiftRight_or_shiftLeft_four (v : Byte) : v >>> 4 ||| v <<< 4 = v.rotateLeft 4 :=
  BitVec.or_comm _ _

/-- `A <- v` for a byte taken from A, with its sign and zero (R354). -/
theorem changesRegisters_loadOfA (f : Byte → Byte) :
    ChangesRegisters (fun t => t.loadA (f t.a)) (fun r => loadIntoA r (f r.a)) := by
  constructor <;> intros <;> rfl

/-- The status word changes as `f` says, and nothing else does (R357 to R364). -/
theorem changesRegisters_modifyPsw (f : Psw → Psw) :
    ChangesRegisters (fun t => { t with psw := f t.psw }) (fun r => { r with psw := f r.psw }) := by
  constructor <;> intros <;> rfl

/-- A flag instruction, by what it does to the status word. -/
theorem runsInside_modifyPsw {op : Byte} {n : Nat} {i : Instr} (f : Psw → Psw)
    (hexec : ∀ s, exec i s = .next { (s.fetchOpcode op).idles n with psw := f s.psw }) :
    RunsInside op n i (fun r => { r with psw := f r.psw }) :=
  runsInside_of (changesRegisters_modifyPsw f) hexec

/-- Settles O46: each change of the registers comes after the internal cycles; XCN is a load of A, and the eight flag
instructions are eight changes of the status word. -/
theorem processorControlAndFlagInstructions : Obligations.ProcessorControlAndFlagInstructions := by
  refine ⟨runsInside_of changesRegisters_none fun _ => rfl, runsInside_of changesRegisters_setHalt fun _ => rfl,
    runsInside_of changesRegisters_setHalt fun _ => rfl, ?xcn,
    runsInside_modifyPsw ({ · with c := false }) fun _ => rfl, runsInside_modifyPsw ({ · with c := true }) fun _ => rfl,
    runsInside_modifyPsw ({ · with p := false }) fun _ => rfl, runsInside_modifyPsw ({ · with p := true }) fun _ => rfl,
    runsInside_modifyPsw ({ · with v := false, h := false }) fun _ => rfl,
    runsInside_modifyPsw (fun p => { p with c := !p.c }) fun _ => rfl,
    runsInside_modifyPsw ({ · with i := true }) fun _ => rfl, runsInside_modifyPsw ({ · with i := false }) fun _ => rfl⟩
  case xcn =>
    refine runsInside_of (changesRegisters_loadOfA (·.rotateLeft 4)) fun s => ?_
    change execXcn s = _
    rw [execXcn, shiftRight_or_shiftLeft_four]
    rfl

/-- `AX <- f(A, X)` (R373): the high byte goes into A. -/
theorem changesRegisters_modifyAX (f : Byte → Byte → Psw → Alu16) :
    ChangesRegisters (fun t => { t.setAX (f t.a t.x t.psw).value with psw := (f t.a t.x t.psw).psw })
      (fun r => { r with
        a := wordHigh (f r.a r.x r.psw).value
        x := wordLow (f r.a r.x r.psw).value
        psw := (f r.a r.x r.psw).psw }) := by
  constructor <;> intros <;> rfl

/-- `X, A <- DIV(AX, Y)` (R374). -/
theorem changesRegisters_divide :
    ChangesRegisters
      (fun t => { t with
        x := (aluDiv t.ax t.y t.psw).quo, a := (aluDiv t.ax t.y t.psw).rem, psw := (aluDiv t.ax t.y t.psw).psw })
      (fun r => { r with
        x := (aluDiv (wordOf r.a r.x) r.y r.psw).quo
        a := (aluDiv (wordOf r.a r.x) r.y r.psw).rem
        psw := (aluDiv (wordOf r.a r.x) r.y r.psw).psw }) := by
  constructor <;> intros <;> rfl

/-- Settles O47: the primitive is applied to the registers as they stand after the internal cycles,
which change none. -/
theorem decimalAdjustMultiplyAndDivideInstructions : Obligations.DecimalAdjustMultiplyAndDivideInstructions :=
  ⟨runsInside_of (changesRegisters_modifyA aluDaa) fun _ => rfl,
    runsInside_of (changesRegisters_modifyA aluDas) fun _ => rfl,
    runsInside_of (changesRegisters_modifyAX aluMul) fun _ => rfl,
    runsInside_of changesRegisters_divide fun _ => rfl⟩

/-! ### Pushes and pops (R365 to R372) -/

/-- `PUSH` of the byte `v`. -/
theorem runs_pushRegister {i : Instr} {s : State} {op v : Byte}
    (hexec : exec i s = .next ((s.fetchOpcode op).pushRegister v)) :
    Runs i s { s.registers with pc := s.pc + 1, sp := s.sp - 1 }
      [.fetch s.pc op, .idle, .idle, .write (wordOf 0x01 s.sp) v] (Function.update s.memAt (wordOf 0x01 s.sp) v) :=
  ((reaches_fetchOpcode s op).idles_two.push rfl v).runs hexec

/-- `POP` into what `f` sets, which is neither PC nor SP. -/
theorem runs_popRegister {i : Instr} {s : State} {op : Byte} {f : State → Byte → State}
    {g : Registers → Byte → Registers} (hf : ∀ v, ChangesRegisters (f · v) (g · v))
    (hsp : ∀ regs sp v, g { regs with sp := sp } v = { g regs v with sp := sp })
    (hexec : exec i s = .next (f (s.fetchOpcode op).popRegister (s.fetchOpcode op).popRegisterValue)) :
    let ea := wordOf 0x01 (s.sp + 1)
    let v := s.busAt 3 ea
    Runs i s { g s.registers v with pc := s.pc + 1, sp := s.sp + 1 } [.fetch s.pc op, .idle, .idle, .read ea v]
      s.memAt := by
  intro ea v
  have hwaited := (reaches_fetchOpcode s op).idles_two
  have hpopped := (hwaited.pop rfl).changes (regs := { s.registers with sp := s.sp + 1 }) (hf v)
  rw [hsp] at hpopped
  have hvalue : (s.fetchOpcode op).popRegisterValue = v := hwaited.popValue_eq rfl
  rw [hvalue] at hexec
  exact hpopped.runs hexec

/-- `A <- v` and `X <- v`, without a flag (R369, R370). -/
theorem changesRegisters_setA (v : Byte) :
    ChangesRegisters (fun t => { t with a := v }) (fun r => { r with a := v }) := by
  constructor <;> intros <;> rfl
theorem changesRegisters_setX (v : Byte) :
    ChangesRegisters (fun t => { t with x := v }) (fun r => { r with x := v }) := by
  constructor <;> intros <;> rfl

/-- Settles O48: the four pushes differ in their byte, and the four pops in where it goes. -/
theorem pushesAndPops : Obligations.PushesAndPops := by
  refine ⟨?pushes, ?pops⟩
  case pushes =>
    intro e he s
    have hexec : exec e.2.1 s = .next ((s.fetchOpcode e.1).pushRegister (e.2.2 s)) := by
      fin_cases he
      all_goals rfl
    exact runs_pushRegister hexec
  case pops =>
    intro e he s
    fin_cases he
    · exact runs_popRegister changesRegisters_setA (fun _ _ _ => rfl) rfl
    · exact runs_popRegister changesRegisters_setX (fun _ _ _ => rfl) rfl
    · exact runs_popRegister changesRegisters_setY (fun _ _ _ => rfl) rfl
    · exact runs_popRegister (fun v => changesRegisters_setPsw (Psw.ofByte v)) (fun _ _ _ => rfl) rfl

end Sys2Proof.Machine

/-! PROOFS. Dispatch and the step (47_dispatch_and_step.md): which instruction a step over plain memory runs, what a
HALTED core does, and how `run` spends its budget. -/

namespace Sys2Proof

/-! ### The instruction of a step over plain memory (R62, R381) -/

/-- The decoder looks at no byte after the third. -/
theorem decode_of_three_bytes (op b1 b2 : Byte) :
    decode [op, b1, b2] = .ok (decodeBytes op b1 b2, [b1, b2].drop (slotOf op).operandCount) := by
  have hdecode := decode_operands op b1 b2 ([b1, b2].drop (slotOf op).operandCount)
  rwa [List.take_append_drop] at hdecode

/-- The cell, with DBNZ dp in the place of any instruction that fetches after it writes. -/
def Slot.withDbnzDp : Slot → Slot
  | .late .afterDecrement _ => .late .afterDecrement .dbnzDp
  | slot => slot

/-- The matrix has it there already, row by row (R81). -/
theorem map_withDbnzDp_opcodeMatrix : opcodeMatrix.map Slot.withDbnzDp = opcodeMatrix := by
  simp only [opcodeMatrix, List.map_append]
  rfl

/-- DBNZ dp is the only instruction that fetches after it writes (R204, log entry 5). -/
theorem eq_dbnzDp_of_slotOf {op : Byte} {f : Byte → Byte → Instr} (h : slotOf op = .late .afterDecrement f) :
    f = .dbnzDp := by
  have hcell : (slotOf op).withDbnzDp = slotOf op :=
    List.map_inj_left.mp (map_withDbnzDp_opcodeMatrix.trans opcodeMatrix.map_id.symm) _ (List.getElem_mem _)
  rw [h] at hcell
  cases hcell
  rfl

namespace Machine

section PlainMemory

variable {s : State}

@[simp] theorem State.beforeOperand2_pc (slot : Slot) (b1 : Byte) : (s.beforeOperand2 slot b1).pc = s.pc := by
  cases slot with
  | late k _ => cases k <;> rfl
  | _ => rfl

@[simp] theorem State.beforeOperand2_oracle (slot : Slot) (b1 : Byte) :
    (s.beforeOperand2 slot b1).oracle = s.oracle := by
  cases slot with
  | late k _ => cases k <;> rfl
  | _ => rfl

/-- The data cycles before a late fetch change at most the byte that DBNZ dp counts down. -/
theorem State.memAt_beforeOperand2 {slot : Slot} {b1 : Byte} {a : Word}
    (h : ∀ f, slot = .late .afterDecrement f → a ≠ s.dp b1) : (s.beforeOperand2 slot b1).memAt a = s.memAt a := by
  cases slot with
  | late k f =>
    cases k with
    | afterRead | afterIndexedRead => rfl
    | afterDecrement =>
      rw [State.beforeOperand2, State.beforeLateFetch, State.memAt_write, State.memAt_read]
      exact Function.update_of_ne (h f rfl) _ _
  | implied | operand | twoOperands | wordOperand | bitOperand => rfl

variable (horacle : s.oracle = [])

include horacle

theorem State.bus_of_oracle_nil (a : Word) : s.bus a = s.memAt a := s.busAt_of_oracle_nil horacle 0 a

theorem State.opcodeByte_of_oracle_nil : s.opcodeByte = s.memAt s.pc := State.bus_of_oracle_nil horacle s.pc

theorem State.operandByte1_of_oracle_nil : s.operandByte1 = s.memAt (s.pc + 1) :=
  State.bus_of_oracle_nil (s := s.fetchOpcode s.opcodeByte) horacle (s.pc + 1)

/-- Operand byte 2 is the byte in memory, unless DBNZ dp has just written it (log entry 5). -/
theorem State.operandByte2_of_oracle_nil
    (hdecrement : ∀ f, slotOf s.opcodeByte = .late .afterDecrement f → s.dp s.operandByte1 ≠ s.pc + 2) :
    s.operandByte2 = s.memAt (s.pc + 2) := by
  have hpc : (s.fetch2 s.opcodeByte s.operandByte1).pc = s.pc + 2 := by rw [State.fetch2_eq]
  rw [State.operandByte2, State.bus_of_oracle_nil (by rw [State.beforeOperand2_oracle]; exact horacle),
    State.beforeOperand2_pc, hpc]
  exact State.memAt_beforeOperand2 fun f hf => (hdecrement f hf).symm

end PlainMemory

/-- Settles O5: the bytes the step fetches are the bytes in memory that are decoded. -/
theorem stepRunsDecodedInstruction : Obligations.StepRunsDecodedInstruction := by
  intro s i rest hrunning horacle hdecode hdbnz
  rw [← State.opcodeByte_of_oracle_nil horacle, ← State.operandByte1_of_oracle_nil horacle, decode_of_three_bytes]
    at hdecode
  obtain ⟨rfl, -⟩ := Prod.mk.inj (Except.ok.inj hdecode)
  have hbyte2 : s.operandByte2 = s.memAt (s.pc + 2) := by
    refine State.operandByte2_of_oracle_nil horacle fun f hslot => hdbnz _ (s.memAt (s.pc + 2)) ?_
    rw [decodeBytes, hslot, Slot.build, eq_dbnzDp_of_slotOf hslot]
  rw [step_of_running s hrunning, State.nextInstr, hbyte2]

/-! ### Several steps of a core -/

/-- A step that completes is the first of a run. -/
theorem run_succ_of_next (M : Host.Core) {s t : M.State} (h : M.step s = .next t) (k : Nat) :
    M.run (k + 1) s = M.run k t := by
  rw [Host.Core.run, h]

section Run

variable {p : Parameters} {s t u : State}

/-- The first step split off. -/
theorem run_succ_of_step (h : stepWith p s = .next t) (k : Nat) :
    (coreWith p).run (k + 1) s = (coreWith p).run k t :=
  run_succ_of_next (coreWith p) h k

/-- One step more at the end. -/
theorem run_succ_of_run {m : Nat} (hrun : (coreWith p).run m s = .next u) (h : stepWith p u = .next t) :
    (coreWith p).run (m + 1) s = .next t := by
  induction m generalizing s with
  | zero =>
    obtain rfl := Host.Outcome.next.inj hrun
    exact run_succ_of_step h 0
  | succ m ih =>
    obtain ⟨s', hstep, -⟩ := stepWith_completes p s
    rw [run_succ_of_step hstep] at hrun ⊢
    exact ih hrun

end Run

/-! ### A HALTED core (R384, R450) -/

/-- An internal cycle and then `k` more are `k + 1`. -/
theorem State.idles_idle (s : State) (k : Nat) : s.idle.idles k = s.idles (k + 1) := by
  simp [State.idles, State.idle, State.tick, List.replicate_succ', Nat.add_comm 1, Nat.add_assoc]

/-- The steps of a HALTED core are internal cycles, whatever its parameters. -/
theorem run_of_halted (p : Parameters) (k : Nat) {s : State} (h : s.halt = true) :
    (coreWith p).run k s = .next (s.idles k) := by
  induction k generalizing s with
  | zero => rfl
  | succ k ih => rw [run_succ_of_step (stepWith_of_halted p s h), ih (s.idle_halt.trans h), State.idles_idle]

/-- Settles O7: an internal cycle changes no field but the counter and the trace. -/
theorem haltedStepIsOneIdleCycle : Obligations.HaltedStepIsOneIdleCycle :=
  fun s h => stepWith_of_halted Config.parameters s h

/-- Settles O8: the modelled core is a core of given parameters, and `k` internal cycles are its `k` steps. -/
theorem haltedCoreIdlesForEver : Obligations.HaltedCoreIdlesForEver :=
  fun k _ h => run_of_halted Config.parameters k h

/-! ### `run` (R385)

The loop counts the cycles consumed since it began. Said of the cycle counter instead, the budget is a deadline that
stays where it is while the loop goes on. -/

/-- After `m` steps from `s` the core is in `u`, before the deadline, and the next step, to `t`, reaches it. -/
structure MeetsDeadline (p : Parameters) (deadline : Int) (s : State) (m : Nat) (u t : State) : Prop where
  run : (coreWith p).run m s = .next u
  step : stepWith p u = .next t
  before : (u.cycles : Int) < deadline
  reached : deadline ≤ t.cycles

section Deadline

variable {p : Parameters} {deadline : Int} {s s' t u : State} {m : Nat}

/-- The first step is the one that reaches the deadline. -/
theorem MeetsDeadline.first (hstep : stepWith p s = .next t) (hbefore : (s.cycles : Int) < deadline)
    (hreached : deadline ≤ t.cycles) : MeetsDeadline p deadline s 0 s t :=
  ⟨rfl, hstep, hbefore, hreached⟩

/-- The deadline is still ahead after the first step. -/
theorem MeetsDeadline.later (hstep : stepWith p s = .next s') (h : MeetsDeadline p deadline s' m u t) :
    MeetsDeadline p deadline s (m + 1) u t :=
  ⟨(run_succ_of_step hstep m).trans h.run, h.step, h.before, h.reached⟩

/-- A HALTED core meets every deadline exactly: its steps are single cycles. -/
theorem MeetsDeadline.eq_of_halted (h : MeetsDeadline p deadline s m u t) (hhalt : s.halt = true) :
    (t.cycles : Int) = deadline := by
  obtain ⟨hrun, hstep, hbefore, hreached⟩ := h
  obtain rfl := Host.Outcome.next.inj ((run_of_halted p m hhalt).symm.trans hrun)
  obtain rfl := Host.Outcome.next.inj ((stepWith_of_halted p (s.idles m) hhalt).symm.trans hstep)
  rw [State.idle_cycles] at hreached ⊢
  omega

end Deadline

/-- A budget that is spent ends the loop, whatever fuel is left. -/
theorem runLoop_of_spent (p : Parameters) {budget consumed : Int} (h : budget ≤ consumed) (fuel : Nat) (s : State) :
    runLoop p budget fuel consumed s = .next (consumed - budget, s) := by
  cases fuel with
  | zero => rfl
  | succ fuel => rw [runLoop, if_neg (not_lt.mpr h)]

/-- A budget that is not spent is made smaller by the cost of a step. -/
theorem runLoop_of_step {p : Parameters} {budget consumed : Int} {s t : State} (h : consumed < budget)
    (hstep : stepWith p s = .next t) (fuel : Nat) :
    runLoop p budget (fuel + 1) consumed s = runLoop p budget fuel (consumed + cyclesBetween s t) t := by
  rw [runLoop, if_pos h, hstep]

/-- The loop ends with the step that reaches the deadline, and reports by how much that step went over it. Every step
costs a cycle or more, so fuel for each cycle left is enough (log entry 15). -/
theorem runLoop_meetsDeadline (p : Parameters) {budget consumed : Int} {fuel : Nat} {s : State}
    (hleft : consumed < budget) (hfuel : budget ≤ consumed + fuel) :
    ∃ m u t, MeetsDeadline p (s.cycles + (budget - consumed)) s m u t ∧
      runLoop p budget fuel consumed s = .next (t.cycles - (s.cycles + (budget - consumed)), t) := by
  induction fuel generalizing consumed s with
  | zero => omega
  | succ fuel ih =>
    obtain ⟨s', hstep, hcost⟩ := stepWith_completes p s
    have hspent : (cyclesBetween s s' : Int) = s'.cycles - s.cycles := by rw [cyclesBetween]; omega
    rw [runLoop_of_step hleft hstep, hspent]
    by_cases hmore : consumed + ((s'.cycles : Int) - s.cycles) < budget
    · have hdeadline : (s'.cycles : Int) + (budget - (consumed + (s'.cycles - s.cycles))) =
          s.cycles + (budget - consumed) := by omega
      obtain ⟨m, u, t, hmeets, hloop⟩ := ih (s := s') hmore (by omega)
      rw [hdeadline] at hmeets hloop
      exact ⟨m + 1, u, t, hmeets.later hstep, hloop⟩
    · refine ⟨0, s, s', .first hstep (by omega) (by omega), ?_⟩
      rw [runLoop_of_spent p (not_lt.mp hmore)]
      congr 2
      omega

/-- Without a block move a step costs twelve cycles at most (R448). -/
theorem cycles_le_of_stepWith {p : Parameters} {s t : State} (hslots : p.blkmovSlots = [])
    (hstep : stepWith p s = .next t) : t.cycles ≤ s.cycles + 12 := by
  cases hhalt : s.halt with
  | true =>
    obtain rfl := Host.Outcome.next.inj ((stepWith_of_halted p s hhalt).symm.trans hstep)
    rw [State.idle_cycles]
    omega
  | false =>
    rw [stepWith_of_no_slot p s hhalt (by rw [hslots]; rfl)] at hstep
    obtain ⟨_, ks, hexec, hspends, -, hhigh⟩ := exec_spends s.nextInstr s
    obtain rfl := Host.Outcome.next.inj (hexec.symm.trans hstep)
    rw [hspends.cycles_eq]
    omega

/-- Settles O59: a positive budget is a deadline, and the overrun is the part of the last step that lies after it. -/
theorem runSpendsItsBudget : Obligations.RunSpendsItsBudget := by
  refine ⟨coreWith_default.symm, fun p budget s => ?_⟩
  by_cases hnone : budget ≤ 0
  · exact ⟨0, 0, s, if_pos hnone, rfl, fun _ => ⟨rfl, rfl, rfl⟩, fun hpos => absurd hpos (not_lt.mpr hnone)⟩
  · obtain ⟨m, u, t, hmeets, hloop⟩ :=
      runLoop_meetsDeadline p (s := s) (not_le.mp hnone) (fuel := budget.toNat) (by omega)
    rw [sub_zero] at hmeets hloop
    obtain ⟨hrun, hstep, hbefore, hreached⟩ := id hmeets
    have hcost : (cyclesBetween u t : Int) = t.cycles - u.cycles := by rw [cyclesBetween]; omega
    refine ⟨t.cycles - (s.cycles + budget), m + 1, t, (if_neg hnone).trans hloop, run_succ_of_run hrun hstep,
      fun h => absurd h hnone, fun _ => ⟨by omega, by omega, ⟨m, u, rfl, hrun, hstep, hbefore, by omega⟩, ?_, ?_⟩⟩
    · intro hhalt
      rw [hmeets.eq_of_halted hhalt, sub_self]
    · intro hslots
      have hle := cycles_le_of_stepWith hslots hstep
      omega

end Machine

end Sys2Proof

/-! PROOFS. Entries and returns (60_exceptions.md) and reset (70_reset_and_hazards.md): over plain memory what was pushed
is what is popped, so that a return undoes an entry; and the reset sequence, run from any state. -/

namespace Sys2Proof.Machine

/-! ### One instruction after another -/

/-- The instruction completes and leaves these registers. -/
def LeavesRegisters (i : Instr) (s : State) (regs : Registers) : Prop :=
  ∃ t, exec i s = .next t ∧ t.registers = regs

/-- A run says which registers the instruction leaves. -/
theorem Runs.leavesRegisters {i : Instr} {s : State} {regs : Registers} {events : List BusEvent} {mem : Word → Byte}
    (h : Runs i s regs events mem) : LeavesRegisters i s regs := by
  obtain ⟨t, hexec, hregs, -⟩ := h
  exact ⟨t, hexec, hregs⟩

/-- What the first instruction's run says of the state it ends in is what the second may use. -/
theorem Runs.andThen {i j : Instr} {s : State} {regs regs' : Registers} {events : List BusEvent} {mem : Word → Byte}
    (h : Runs i s regs events mem)
    (hnext : ∀ t : State, t.registers = regs → t.memAt = mem → t.oracle = s.oracle → LeavesRegisters j t regs') :
    ∃ t u, exec i s = .next t ∧ t.registers = regs ∧ exec j t = .next u ∧ u.registers = regs' := by
  obtain ⟨t, hexec, hregs, -, -, hmem, horacle⟩ := h
  obtain ⟨u, hexec', hregs'⟩ := hnext t hregs (funext hmem) horacle
  exact ⟨t, u, hexec, hregs, hexec', hregs'⟩

/-! ### Returns and pops over plain memory: the bytes above SP in memory are the bytes popped -/

section PlainStack

variable {t : State} {regs : Registers} {mem : Word → Byte} (hregs : t.registers = regs) (hmem : t.memAt = mem)
  (horacle : t.oracle = [])
include hregs hmem horacle

/-- RET continues at the word above SP (R212). -/
theorem ret_leavesRegisters :
    LeavesRegisters .ret t
      { regs with
        pc := wordOf (mem (wordOf 0x01 (regs.sp + 2))) (mem (wordOf 0x01 (regs.sp + 1))), sp := regs.sp + 2 } := by
  obtain rfl := hregs
  obtain rfl := hmem
  obtain ⟨hret, -⟩ := returnsPopInInverseOrder
  have hleaves := (hret t).leavesRegisters
  simp only [t.busAt_of_oracle_nil horacle] at hleaves
  exact hleaves

/-- RETI continues at the word that lies above the status word, whose eight flags all come back (R213, R405). -/
theorem reti_leavesRegisters :
    LeavesRegisters .reti t
      { regs with
        pc := wordOf (mem (wordOf 0x01 (regs.sp + 3))) (mem (wordOf 0x01 (regs.sp + 2))), sp := regs.sp + 3
        psw := Psw.ofByte (mem (wordOf 0x01 (regs.sp + 1))) } := by
  obtain rfl := hregs
  obtain rfl := hmem
  obtain ⟨-, hreti⟩ := returnsPopInInverseOrder
  have hleaves := (hreti t).leavesRegisters
  simp only [t.busAt_of_oracle_nil horacle] at hleaves
  exact hleaves

/-- POP into the place `g` loads the byte above SP (R369 to R372). -/
theorem pop_leavesRegisters {j : Instr} {g : Registers → Byte → Registers} {events : List BusEvent}
    (hpop : Runs j t { g t.registers (t.busAt 3 (wordOf 0x01 (t.sp + 1))) with pc := t.pc + 1, sp := t.sp + 1 }
      events t.memAt) :
    LeavesRegisters j t
      { g regs (mem (wordOf 0x01 (regs.sp + 1))) with pc := regs.pc + 1, sp := regs.sp + 1 } := by
  obtain rfl := hregs
  obtain rfl := hmem
  have hleaves := hpop.leavesRegisters
  rw [t.busAt_of_oracle_nil horacle] at hleaves
  exact hleaves

end PlainStack

/-! ### What was pushed is what is popped (R29) -/

/-- A push at one value of SP does not touch the byte at another. -/
theorem wordOf_page_ne {sp sp' : Byte} (h : sp ≠ sp') : wordOf 0x01 sp ≠ wordOf 0x01 sp' :=
  fun heq => h (by simpa using congrArg wordLow heq)

/-- Memory after a return address was pushed at SP (R29). -/
def withReturnAddress (mem : Word → Byte) (sp : Byte) (back : Word) : Word → Byte :=
  Function.update (Function.update mem (wordOf 0x01 sp) (wordHigh back)) (wordOf 0x01 (sp - 1)) (wordLow back)

section ReturnAddress

variable (mem : Word → Byte) (sp : Byte) (back : Word)

theorem withReturnAddress_high : withReturnAddress mem sp back (wordOf 0x01 sp) = wordHigh back := by
  have hne : sp ≠ sp - 1 := by bv_omega
  rw [withReturnAddress, Function.update_of_ne (wordOf_page_ne hne), Function.update_self]

theorem withReturnAddress_low : withReturnAddress mem sp back (wordOf 0x01 (sp - 1)) = wordLow back :=
  Function.update_self ..

end ReturnAddress

/-- RET undoes whatever pushed a return address and changed no register but PC (R208, R209, R212). -/
theorem ret_undoes_call {i : Instr} {s : State} {target back : Word} {events : List BusEvent} (horacle : s.oracle = [])
    (hcall : Runs i s { s.registers with pc := target, sp := s.sp - 2 } events
      (withReturnAddress s.memAt s.sp back)) :
    ∃ t u, exec i s = .next t ∧ t.pc = target ∧ exec .ret t = .next u ∧
      u.registers = { s.registers with pc := back } := by
  have hlow : s.sp - 2 + 1 = s.sp - 1 := by bv_omega
  have hhigh : s.sp - 2 + 2 = s.sp := BitVec.sub_add_cancel ..
  obtain ⟨t, u, hexec, htarget, hret, hback⟩ := hcall.andThen fun t hregs hmem ht =>
    ret_leavesRegisters hregs hmem (ht.trans horacle)
  refine ⟨t, u, hexec, congrArg Registers.pc htarget, hret, hback.trans ?_⟩
  simp only [hlow, hhigh, withReturnAddress_high, withReturnAddress_low, wordOf_high_low]
  rfl

/-- RETI undoes BRK: B and I come back with the rest of the status word (R404, R405). -/
theorem reti_undoes_brk {s : State} (horacle : s.oracle = []) :
    ∃ t u, exec .brk s = .next t ∧ exec .reti t = .next u ∧ u.registers = { s.registers with pc := s.pc + 1 } := by
  have hpsw : s.sp - 3 + 1 = s.sp - 2 := by bv_omega
  have hlow : s.sp - 3 + 2 = s.sp - 1 := by bv_omega
  have hhigh : s.sp - 3 + 3 = s.sp := BitVec.sub_add_cancel ..
  have hne_low : s.sp - 1 ≠ s.sp - 2 := by bv_omega
  have hne_high : s.sp ≠ s.sp - 2 := by bv_omega
  obtain ⟨t, u, hexec, -, hreti, hback⟩ :=
    (brkTakesTheTrap s).andThen
      (mem := Function.update (withReturnAddress s.memAt s.sp (s.pc + 1)) (wordOf 0x01 (s.sp - 2)) s.psw.toByte)
      fun t hregs hmem ht => reti_leavesRegisters hregs hmem (ht.trans horacle)
  refine ⟨t, u, hexec, hreti, hback.trans ?_⟩
  simp only [hpsw, hlow, hhigh, Function.update_self, Function.update_of_ne (wordOf_page_ne hne_low),
    Function.update_of_ne (wordOf_page_ne hne_high), withReturnAddress_high, withReturnAddress_low, wordOf_high_low,
    Psw.ofByte_toByte]
  rfl

/-- POP undoes PUSH of `v` where loading `v` into its place `g` changes nothing, because `v` came from there
(R365 to R372). -/
theorem pop_undoes_push {i j : Instr} {s : State} {v : Byte} {g : Registers → Byte → Registers}
    {events : List BusEvent} {events' : State → List BusEvent} (horacle : s.oracle = [])
    (hpush : Runs i s { s.registers with pc := s.pc + 1, sp := s.sp - 1 } events
      (Function.update s.memAt (wordOf 0x01 s.sp) v))
    (hpop : ∀ t : State, Runs j t
      { g t.registers (t.busAt 3 (wordOf 0x01 (t.sp + 1))) with pc := t.pc + 1, sp := t.sp + 1 } (events' t) t.memAt)
    (hg : ∀ pc sp, g { s.registers with pc := pc, sp := sp } v = { s.registers with pc := pc, sp := sp }) :
    ∃ t u, exec i s = .next t ∧ exec j t = .next u ∧ u.registers = { s.registers with pc := s.pc + 2 } := by
  have hsp : s.sp - 1 + 1 = s.sp := BitVec.sub_add_cancel ..
  have hpc : s.pc + 1 + 1 = s.pc + 2 := BitVec.add_assoc ..
  obtain ⟨t, u, hexec, -, hexec', hpopped⟩ := hpush.andThen fun t hregs hmem ht =>
    pop_leavesRegisters hregs hmem (ht.trans horacle) (hpop t)
  refine ⟨t, u, hexec, hexec', hpopped.trans ?_⟩
  simp only [hsp, hpc, Function.update_self, hg]
  rfl

/-- Settles O30: BRK and RETI, the two calls and RET, and the four pushes and pops. -/
theorem returnsUndoEntriesAndPopsUndoPushes : Obligations.ReturnsUndoEntriesAndPopsUndoPushes := by
  intro s horacle
  obtain ⟨-, -, hcall, hpcall, -⟩ := jumpsAndCalls
  refine ⟨reti_undoes_brk horacle, fun addr => ret_undoes_call horacle (hcall s addr), fun up => ?pcall, ?pops⟩
  case pcall =>
    obtain ⟨t, u, hexec, -, hret, hback⟩ := ret_undoes_call horacle (hpcall s up)
    exact ⟨t, u, hexec, hret, hback⟩
  case pops =>
    intro e he
    fin_cases he
    · exact pop_undoes_push horacle (runs_pushRegister rfl)
        (fun _ => runs_popRegister changesRegisters_setA (fun _ _ _ => rfl) rfl) fun _ _ => rfl
    · exact pop_undoes_push horacle (runs_pushRegister rfl)
        (fun _ => runs_popRegister changesRegisters_setX (fun _ _ _ => rfl) rfl) fun _ _ => rfl
    · exact pop_undoes_push horacle (runs_pushRegister rfl)
        (fun _ => runs_popRegister changesRegisters_setY (fun _ _ _ => rfl) rfl) fun _ _ => rfl
    · exact pop_undoes_push horacle (runs_pushRegister rfl)
        (fun _ => runs_popRegister (fun v => changesRegisters_setPsw (Psw.ofByte v)) (fun _ _ _ => rfl) rfl)
        fun _ _ => by rw [Psw.ofByte_toByte]; rfl

/-! ### Reset (R430 to R432) -/

/-- The reset sequence with every field it changes (R431). -/
theorem State.resetFrom_eq (s : State) :
    s.resetFrom =
      { s with
        a := 0x00, x := 0x00, y := 0x00, sp := 0xEF, pc := wordOf (s.busAt 1 0xFFFF) (s.busAt 0 0xFFFE)
        psw := Psw.ofByte 0x02, halt := false, latch0 := 0x00, latch1 := 0x00, latch2 := 0x00
        cycles := s.cycles + 2
        trace := .read 0xFFFF (s.busAt 1 0xFFFF) :: .read 0xFFFE (s.busAt 0 0xFFFE) :: s.trace } := rfl

/-- Settles O55: the fields of the reset sequence's equation. -/
theorem resetReadsItsVectorAndSetsEveryRegister : Obligations.ResetReadsItsVectorAndSetsEveryRegister := by
  intro s
  rw [State.resetFrom_eq]
  exact ⟨rfl, rfl, rfl, rfl, rfl⟩

/-- Settles O56: the sequence sets each register, and its two reads give the byte of an address that nothing lists. -/
theorem resetStateIsPowerOnThenReset : Obligations.ResetStateIsPowerOnThenReset := by
  intro s hcycles htrace horacle hmem
  have hread : ∀ k a, s.busAt k a = Config.unlistedByte := fun k a => by
    rw [s.busAt_of_oracle_nil horacle, State.memAt, hmem, memByte]
  rw [State.resetFrom_eq, hread, hread, hcycles, htrace, horacle, hmem]
  rfl

end Sys2Proof.Machine
